-- ==== Sys2Proof/Word.lean ====
section
/-! DEFINITION. The word types of the block (spec/00_scope.md R6, R7): widths and nothing else. -/

namespace Sys2Proof

/-- A byte: one register image, or one byte on the bus (`IMG_WIDTH` = 8, R6). -/
abbrev Byte := BitVec 8

/-- A 32-bit unsigned quantity: ARG, `rsp_data`, milliseconds (`TIME_WIDTH` = 32, R6). -/
abbrev U32 := BitVec 32

/-- A register address code of the chip (`ADDR_WIDTH` = 4, R6, R39). -/
abbrev RegAddr := BitVec 4

/-- The host command word CW (R57). -/
abbrev CommandWord := BitVec 64

/-- A one-bit field as the low bit of a byte. -/
def bitByte (b : Bool) : Byte := if b then 1#8 else 0#8

end Sys2Proof
end

