-- ==== Sys2Proof/Syntax.lean ====
section
/-! DEFINITION. The commands of the block: one constructor for each row of spec/opcode_table.json
(spec/30_encoding.md R58, R73; spec/60_exceptions.md R139, R140). Operands are the unsigned bit fields
of R57 and R60 to R66, taken as they are (R67). -/

namespace Sys2Proof

/-- One command word's meaning-bearing content. Reserved and ignored bits of the word are no part of it
(R59, R67, R68). -/
inductive Instr where
  /-- INIT (R111). -/
  | init
  /-- WRITE_REG: ADDR, LEN, ARG; data byte i is `ARG[8i+7:8i]` for i < LEN (R60, R97). -/
  | writeReg (addr : RegAddr) (len : BitVec 3) (arg : U32)
  /-- READ_REG: ADDR, LEN (R98). -/
  | readReg (addr : RegAddr) (len : BitVec 3)
  /-- CFG_MODE: the mode code and the five flags (R61, R104). -/
  | cfgMode (md : BitVec 3) (oscpd chcon refsel negbuf chop : Bool)
  /-- CFG_CHANNEL: channel code, range code, polarity (R62, R105). -/
  | cfgChannel (ch : BitVec 4) (rn : BitVec 3) (pol : Bool)
  /-- CFG_FILTER: the rate code (R63, R106). -/
  | cfgFilter (sf : Byte)
  /-- CFG_IO: two direction bits (R64, R107). -/
  | cfgIo (p1dir p2dir : Bool)
  /-- CALIBRATE: the timeout in milliseconds (R65, R114). -/
  | calibrate (timeout : U32)
  /-- READ_CONV (R132). -/
  | readConv
  /-- PROBE (R134). -/
  | probe
  /-- SELECT_W a = WRITE_REG a, [] (R73). -/
  | selectW (addr : RegAddr)
  /-- SELECT_R a = READ_REG a, 0 (R73). -/
  | selectR (addr : RegAddr)
  /-- READ_STATUS = READ_REG 0, 1 (R73). -/
  | readStatus
  /-- READ_MODE = READ_REG 1, 1 (R73). -/
  | readMode
  /-- READ_CONTROL = READ_REG 2, 1 (R73). -/
  | readControl
  /-- READ_ID = READ_REG 15, 1 (R73). -/
  | readId
  /-- OP = 0x0 (R139). -/
  | illegalOp0
  /-- OP = 0xB (R139). -/
  | illegalOpB
  /-- OP = 0xC to 0xF; the operand is `CW[1:0]` (R139). -/
  | illegalOpCF (low : BitVec 2)
  /-- WRITE_REG with LEN 5 or 7; the operand is `CW[9]` (R140). -/
  | illegalWriteRegLen57 (bit9 : Bool)
  /-- WRITE_REG with LEN 6 or 7; the operand is `CW[8]` (R140). -/
  | illegalWriteRegLen67 (bit8 : Bool)
  /-- READ_REG with LEN 5 or 7; the operand is `CW[9]` (R140). -/
  | illegalReadRegLen57 (bit9 : Bool)
  /-- READ_REG with LEN 6 or 7; the operand is `CW[8]` (R140). -/
  | illegalReadRegLen67 (bit8 : Bool)
  deriving DecidableEq, Repr

end Sys2Proof
end

