-- ==== Sys2Proof/WellFormed.lean ====
section
/-! DEFINITION. Which terms of `Instr` a command word decodes to. Rows of spec/opcode_table.json overlap (a pseudo
row's words are words of its core row, and LEN = 7 lies in two ILLEGAL rows); a well-formed term is the one that names its
words' most specific row (DESIGN CHOICE, log 8), with the operand bits its length leaves unused at 0, as an
assembler writes them (spec/30_encoding.md R73). -/

namespace Sys2Proof

/-- The bits of ARG that a data phase of `len` bytes uses: bytes 0 to len - 1 (R60); all four from LEN = 4 on. -/
def usedArgMask (len : BitVec 3) : U32 :=
  match len.toNat with
  | 0 => 0x00000000#32
  | 1 => 0x000000FF#32
  | 2 => 0x0000FFFF#32
  | 3 => 0x00FFFFFF#32
  | _ => 0xFFFFFFFF#32

/-- The addresses whose one-byte reads have a row of their own: READ_STATUS, READ_MODE, READ_CONTROL, READ_ID
(R73). -/
def hasReadRow (addr : RegAddr) : Bool :=
  addr == 0#4 || addr == 1#4 || addr == 2#4 || addr == 15#4

/-- A term is well formed when some command word decodes to it. -/
def Instr.wf : Instr → Bool
  | .writeReg _ len arg => 1 ≤ len.toNat && len.toNat ≤ 4 && (arg &&& ~~~ usedArgMask len) == 0#32
  | .readReg addr len => 1 ≤ len.toNat && len.toNat ≤ 4 && !(len == 1#3 && hasReadRow addr)
  | .illegalWriteRegLen67 bit8 => !bit8
  | .illegalReadRegLen67 bit8 => !bit8
  | .init => true
  | .cfgMode _ _ _ _ _ _ => true
  | .cfgChannel _ _ _ => true
  | .cfgFilter _ => true
  | .cfgIo _ _ => true
  | .calibrate _ => true
  | .readConv => true
  | .probe => true
  | .selectW _ => true
  | .selectR _ => true
  | .readStatus => true
  | .readMode => true
  | .readControl => true
  | .readId => true
  | .illegalOp0 => true
  | .illegalOpB => true
  | .illegalOpCF _ => true
  | .illegalWriteRegLen57 _ => true
  | .illegalReadRegLen57 _ => true

end Sys2Proof
end

