-- ==== Sys2Proof/Decode.lean ====
section
/-! DEFINITION. The host command word: its fields, the decoder, the encoder (spec/30_encoding.md R57 to R68).
Every 64-bit value is one complete command (R57), so the decoder is total and never fails: a word that is no legal command
decodes to the ILLEGAL row that names why (R68, R139, R140). Where rows of spec/opcode_table.json overlap the most
specific row is taken, and LEN = 7 is the LEN5_7 row's (DESIGN CHOICE, log 8; either reading has the same effect). -/

namespace Sys2Proof

/-- `CW[3:0]` (R57). -/
def opField (cw : CommandWord) : BitVec 4 := cw.extractLsb' 0 4

/-- `CW[7:4]` (R57). -/
def addrField (cw : CommandWord) : RegAddr := cw.extractLsb' 4 4

/-- `CW[10:8]` (R57). -/
def lenField (cw : CommandWord) : BitVec 3 := cw.extractLsb' 8 3

/-- `CW[47:16]` (R57). -/
def argField (cw : CommandWord) : U32 := cw.extractLsb' 16 32

/-- ARG with only the bytes a data phase of `len` bytes uses: bytes at an index from `len` on are ignored (R60). -/
def keepArgBytes (len : BitVec 3) (arg : U32) : U32 := arg &&& BitVec.ofNat 32 (2 ^ (8 * len.toNat) - 1)

/-- WRITE_REG's words (OP = 0x2) by their LEN field: SELECT_W, WRITE_REG or an ILLEGAL row (R59, R60, R73, R140). ARG bytes at an
index from LEN on are ignored (R60). -/
def decodeWrite (addr : RegAddr) (len : BitVec 3) (arg : U32) : Instr :=
  match len.toNat with
  | 0 => .selectW addr
  | 5 => .illegalWriteRegLen57 false
  | 6 => .illegalWriteRegLen67 false
  | 7 => .illegalWriteRegLen57 true
  | _ => .writeReg addr len (keepArgBytes len arg)

/-- READ_REG's one-byte words by address: the four named reads (R73), else READ_REG. -/
def decodeReadByte (addr : RegAddr) : Instr :=
  match addr.toNat with
  | 0 => .readStatus
  | 1 => .readMode
  | 2 => .readControl
  | 15 => .readId
  | _ => .readReg addr 1#3

/-- READ_REG's words (OP = 0x3) by their LEN field (R59, R73, R140). -/
def decodeRead (addr : RegAddr) (len : BitVec 3) : Instr :=
  match len.toNat with
  | 0 => .selectR addr
  | 1 => decodeReadByte addr
  | 5 => .illegalReadRegLen57 false
  | 6 => .illegalReadRegLen67 false
  | 7 => .illegalReadRegLen57 true
  | _ => .readReg addr len

/-- CFG_MODE's ARG (R61). -/
def decodeMode (arg : U32) : Instr :=
  .cfgMode (arg.extractLsb' 0 3) (arg.getLsbD 8) (arg.getLsbD 9) (arg.getLsbD 10) (arg.getLsbD 11) (arg.getLsbD 12)

/-- CFG_CHANNEL's ARG (R62). -/
def decodeChannel (arg : U32) : Instr :=
  .cfgChannel (arg.extractLsb' 0 4) (arg.extractLsb' 8 3) (arg.getLsbD 16)

/-- The decoder (R58, R68, R141): OP selects the row; ADDR and LEN are read by OP 0x2 and 0x3 alone (R59). -/
def decode (cw : CommandWord) : Instr :=
  match (opField cw).toNat with
  | 0 => .illegalOp0
  | 1 => .init
  | 2 => decodeWrite (addrField cw) (lenField cw) (argField cw)
  | 3 => decodeRead (addrField cw) (lenField cw)
  | 4 => decodeMode (argField cw)
  | 5 => decodeChannel (argField cw)
  | 6 => .cfgFilter ((argField cw).extractLsb' 0 8)
  | 7 => .cfgIo ((argField cw).getLsbD 0) ((argField cw).getLsbD 1)
  | 8 => .calibrate (argField cw)
  | 9 => .readConv
  | 10 => .probe
  | 11 => .illegalOpB
  | _ => .illegalOpCF ((opField cw).extractLsb' 0 2)

/-- The command word of a table row's bits: a row of `nbits` bits whose bits above `nbits` are 0, laid out as the one 64-bit word
of R57. -/
def tableWord (nbits w : Nat) : CommandWord := BitVec.ofNat 64 (w % 2 ^ nbits)

/-- The instruction the decoder reads from a table row's bits. A row wider than the 64-bit word is no command word (R57). -/
def decodeTableWord (nbits w : Nat) : Option Instr :=
  if nbits ≤ 64 then some (decode (tableWord nbits w)) else none

/-- R57's encoder: `zext_64(ARG) << 16 | zext_64(LEN) << 8 | zext_64(ADDR) << 4 | zext_64(OP)`. -/
def encodeFields (op : BitVec 4) (addr : RegAddr) (len : BitVec 3) (arg : U32) : CommandWord :=
  (arg.setWidth 64 <<< 16) ||| (len.setWidth 64 <<< 8) ||| (addr.setWidth 64 <<< 4) ||| op.setWidth 64

/-- One ARG bit at a fixed position. -/
def argBit (i : Nat) (b : Bool) : U32 := (BitVec.ofBool b).setWidth 32 <<< i

/-- CFG_MODE's ARG sub-layout (R61). -/
def modeArg (md : BitVec 3) (oscpd chcon refsel negbuf chop : Bool) : U32 :=
  md.setWidth 32 ||| argBit 8 oscpd ||| argBit 9 chcon ||| argBit 10 refsel ||| argBit 11 negbuf ||| argBit 12 chop

/-- CFG_CHANNEL's ARG sub-layout (R62). -/
def channelArg (ch : BitVec 4) (rn : BitVec 3) (pol : Bool) : U32 :=
  ch.setWidth 32 ||| (rn.setWidth 32 <<< 8) ||| argBit 16 pol

/-- The three-bit LEN value with the given bits. -/
def lenOf (b2 b1 b0 : Bool) : BitVec 3 :=
  BitVec.ofBool b2 ++ BitVec.ofBool b1 ++ BitVec.ofBool b0

/-- The word of an instruction, every reserved and ignored bit 0 (R57, R73). -/
def encode : Instr → CommandWord
  | .init => encodeFields 0x1#4 0#4 0#3 0#32
  | .writeReg addr len arg => encodeFields 0x2#4 addr len arg
  | .readReg addr len => encodeFields 0x3#4 addr len 0#32
  | .cfgMode md oscpd chcon refsel negbuf chop =>
      encodeFields 0x4#4 0#4 0#3 (modeArg md oscpd chcon refsel negbuf chop)
  | .cfgChannel ch rn pol => encodeFields 0x5#4 0#4 0#3 (channelArg ch rn pol)
  | .cfgFilter sf => encodeFields 0x6#4 0#4 0#3 (sf.setWidth 32)
  | .cfgIo p1dir p2dir => encodeFields 0x7#4 0#4 0#3 (argBit 0 p1dir ||| argBit 1 p2dir)
  | .calibrate timeout => encodeFields 0x8#4 0#4 0#3 timeout
  | .readConv => encodeFields 0x9#4 0#4 0#3 0#32
  | .probe => encodeFields 0xA#4 0#4 0#3 0#32
  | .selectW addr => encodeFields 0x2#4 addr 0#3 0#32
  | .selectR addr => encodeFields 0x3#4 addr 0#3 0#32
  | .readStatus => encodeFields 0x3#4 0#4 1#3 0#32
  | .readMode => encodeFields 0x3#4 1#4 1#3 0#32
  | .readControl => encodeFields 0x3#4 2#4 1#3 0#32
  | .readId => encodeFields 0x3#4 15#4 1#3 0#32
  | .illegalOp0 => encodeFields 0x0#4 0#4 0#3 0#32
  | .illegalOpB => encodeFields 0xB#4 0#4 0#3 0#32
  | .illegalOpCF low => encodeFields (3#2 ++ low) 0#4 0#3 0#32
  | .illegalWriteRegLen57 bit9 => encodeFields 0x2#4 0#4 (lenOf true bit9 true) 0#32
  | .illegalWriteRegLen67 bit8 => encodeFields 0x2#4 0#4 (lenOf true true bit8) 0#32
  | .illegalReadRegLen57 bit9 => encodeFields 0x3#4 0#4 (lenOf true bit9 true) 0#32
  | .illegalReadRegLen67 bit8 => encodeFields 0x3#4 0#4 (lenOf true true bit8) 0#32

end Sys2Proof
end

