-- ==== Sys2Proof/Config.lean ====
section
/-! DEFINITION. The implementation parameters of spec/00_scope.md R6, each fixed for the lifetime of a block
instance and no part of the block's state (R13). A parameter marked OPEN has no value in any source and is an opaque
constant, so that nothing can be proved of its value (log 6); the defaults of the others stand in
Sys2Proof/Machine/Defaults.lean. -/

namespace Sys2Proof

/-- A field of an 8-bit image: bits `hi` down to `lo` (spec/40_register_image.md R78). -/
structure Field where
  hi : Nat
  lo : Nat
  deriving DecidableEq, Repr

/-- COMM_LAYOUT (R6): the document's order of the command byte's bits, or the datasheet's (R25, R26, R69). -/
inductive CommLayout where
  | doc
  | datasheet
  deriving DecidableEq, Repr

/-- MODE_LAYOUT: a field table and its reserved mask (R28, R81). -/
structure ModeLayout where
  md : Field
  oscpd : Field
  chcon : Field
  refsel : Field
  negbuf : Field
  chop : Field
  reserved : Byte
  deriving DecidableEq, Repr

/-- CONTROL_LAYOUT (R30, R81). -/
structure ControlLayout where
  rn : Field
  pol : Field
  ch : Field
  reserved : Byte
  deriving DecidableEq, Repr

/-- IO_LAYOUT (R33, R81). -/
structure IoLayout where
  p1dir : Field
  p2dir : Field
  reserved : Byte
  deriving DecidableEq, Repr

/-- The parameters of R6. `IMG_WIDTH`, `ADDR_WIDTH`, `TIME_WIDTH` are the widths of `Byte`, `RegAddr` and `U32`;
`DATA_WIDTH` is the width of READ_CONV's code; `MAX_XFER_BYTES` is `maxXferBytes`. -/
structure Params where
  commLayout : CommLayout
  modeLayout : ModeLayout
  controlLayout : ControlLayout
  ioLayout : IoLayout
  calHardLimitMs : U32
  pollDelayMs : U32
  busTimeoutMs : U32
  deviceId : BitVec 4
  csActiveLow : Bool
  initP1dir : Bool
  initP2dir : Bool
  initFilter : Byte
  initCh : BitVec 4
  initRn : BitVec 3
  initPol : Bool
  initOscpd : Bool
  initChcon : Bool
  initRefsel : Bool
  initNegbuf : Bool
  initChop : Bool
  deriving DecidableEq, Repr

/-- CAL_HARD_LIMIT_MS, OPEN (R6, D24). -/
opaque Config.calHardLimitMs : U32

/-- BUS_TIMEOUT_MS, OPEN (R6, D15). -/
opaque Config.busTimeoutMs : U32

/-- INIT_P1DIR, OPEN (R6, R113). -/
opaque Config.initP1dir : Bool

/-- INIT_P2DIR, OPEN (R6, R113). -/
opaque Config.initP2dir : Bool

/-- INIT_FILTER, OPEN (R6, R113). -/
opaque Config.initFilter : Byte

/-- INIT_CH, OPEN (R6, R113). -/
opaque Config.initCh : BitVec 4

/-- INIT_RN, OPEN (R6, R113). -/
opaque Config.initRn : BitVec 3

/-- INIT_POL, OPEN (R6, R113). -/
opaque Config.initPol : Bool

/-- INIT_MODE_FLAGS, OPEN: OSCPD (R6, R113). -/
opaque Config.initOscpd : Bool

/-- INIT_MODE_FLAGS, OPEN: CHCON (R6, R113). -/
opaque Config.initChcon : Bool

/-- INIT_MODE_FLAGS, OPEN: REFSEL (R6, R113). -/
opaque Config.initRefsel : Bool

/-- INIT_MODE_FLAGS, OPEN: NEGBUF (R6, R113). -/
opaque Config.initNegbuf : Bool

/-- INIT_MODE_FLAGS, OPEN: CHOP (R6, R113). -/
opaque Config.initChop : Bool

end Sys2Proof
end

