-- ==== Sys2Proof/Machine/Defaults.lean ====
section
/-! DEFINITION. The values that spec/00_scope.md R6 gives for its parameters, the default layout tables of
spec/40_register_image.md R81 among them. -/

namespace Sys2Proof

/-- The default MODE table (R81; the positions are the spec's, marked there as general knowledge, log 12). -/
def ModeLayout.default : ModeLayout :=
  { md := ⟨2, 0⟩, oscpd := ⟨3, 3⟩, chcon := ⟨4, 4⟩, refsel := ⟨5, 5⟩, negbuf := ⟨6, 6⟩, chop := ⟨7, 7⟩,
    reserved := 0x00#8 }

/-- The default CONTROL table (R81; log 12). -/
def ControlLayout.default : ControlLayout :=
  { rn := ⟨2, 0⟩, pol := ⟨3, 3⟩, ch := ⟨7, 4⟩, reserved := 0x00#8 }

/-- The default IO table (R81; log 12). -/
def IoLayout.default : IoLayout :=
  { p1dir := ⟨4, 4⟩, p2dir := ⟨5, 5⟩, reserved := 0xCF#8 }

/-- MAX_XFER_BYTES (R6). -/
def maxXferBytes : Nat := 4

/-- R6's defaults, with the OPEN parameters opaque. -/
def Params.default : Params :=
  { commLayout := .doc
    modeLayout := ModeLayout.default
    controlLayout := ControlLayout.default
    ioLayout := IoLayout.default
    calHardLimitMs := Config.calHardLimitMs
    pollDelayMs := 0#32
    busTimeoutMs := Config.busTimeoutMs
    deviceId := 0x7#4
    csActiveLow := true
    initP1dir := Config.initP1dir
    initP2dir := Config.initP2dir
    initFilter := Config.initFilter
    initCh := Config.initCh
    initRn := Config.initRn
    initPol := Config.initPol
    initOscpd := Config.initOscpd
    initChcon := Config.initChcon
    initRefsel := Config.initRefsel
    initNegbuf := Config.initNegbuf
    initChop := Config.initChop }

end Sys2Proof
end

