-- ==== Sys2Proof/Machine/Encoder.lean ====
section
/-! DEFINITION. The register-image encoder (spec/40_register_image.md R75 to R87) and the command byte
(spec/30_encoding.md R69): pure functions over 8-bit values, with the layout tables as arguments. -/

namespace Sys2Proof.Machine

/-- `get_bit(v, i)` (R76). -/
def getBit (v : Byte) (i : Nat) : Bool := v.getLsbD i

/-- `set_bit(v, i, b)` (R77). -/
def setBit (v : Byte) (i : Nat) (b : Bool) : Byte := (v &&& ~~~ (1#8 <<< i)) ||| (bitByte b <<< i)

/-- The number of bits of a field. -/
def fieldWidth (f : Field) : Nat := f.hi - f.lo + 1

/-- The value mask of a field before it is shifted: `2^(hi-lo+1) - 1`. -/
def fieldOnes (f : Field) : Byte := BitVec.ofNat 8 (2 ^ fieldWidth f - 1)

/-- R79's `m = (2^(hi-lo+1) - 1) << lo`: the bits a field covers. -/
def fieldMask (f : Field) : Byte := fieldOnes f <<< f.lo

/-- `get_field(v, F)` (R78). -/
def getField (v : Byte) (f : Field) : Byte := (v >>> f.lo) &&& fieldOnes f

/-- `set_field(v, F, x)` (R79): `x mod 2^(hi-lo+1)` goes to the field, no other bit changes. -/
def setField (v : Byte) (f : Field) (x : Byte) : Byte := (v &&& ~~~ fieldMask f) ||| ((x &&& fieldOnes f) <<< f.lo)

/-! ### Layout tables (R81) -/

/-- The command byte's ADDR field under each COMM_LAYOUT (R81). -/
def commAddrField : CommLayout → Field
  | .doc => ⟨7, 4⟩
  | .datasheet => ⟨3, 0⟩

/-- The command byte's RW bit under each COMM_LAYOUT (R81). -/
def commRwField : CommLayout → Field
  | .doc => ⟨1, 1⟩
  | .datasheet => ⟨6, 6⟩

/-- The command byte's WEN bit under each COMM_LAYOUT (R81). -/
def commWenField : CommLayout → Field
  | .doc => ⟨0, 0⟩
  | .datasheet => ⟨7, 7⟩

/-- The command byte's reserved mask under each COMM_LAYOUT (R81). -/
def commReserved : CommLayout → Byte
  | .doc => 0x0C#8
  | .datasheet => 0x30#8

/-- STATUS's one opaque field ST and FILTER's one field SF (R81). -/
def wholeByteField : Field := ⟨7, 0⟩

/-- The bits that some field of a table covers. -/
def tableCover : List Field → Byte
  | [] => 0#8
  | f :: fs => fieldMask f ||| tableCover fs

/-- Whether a table's fields are pairwise disjoint (R81). -/
def tableDisjoint : List Field → Bool
  | [] => true
  | f :: fs => (fieldMask f &&& tableCover fs) == 0#8 && tableDisjoint fs

/-- Whether a field lies in an 8-bit image (7 ≥ hi ≥ lo ≥ 0, R78) and has the width R81 requires. -/
def fieldFits (width : Nat) (f : Field) : Bool := f.hi ≤ 7 && f.lo ≤ f.hi && fieldWidth f == width

/-- R81's conditions on a table: its fields are pairwise disjoint and its reserved mask is exactly the bits no field
covers. -/
def tableOk (fields : List Field) (reserved : Byte) : Bool :=
  tableDisjoint fields && reserved == ~~~ tableCover fields

/-- A MODE table keeps the widths MD 3 and each flag 1 (R81). -/
def modeLayoutOk (l : ModeLayout) : Bool :=
  fieldFits 3 l.md && fieldFits 1 l.oscpd && fieldFits 1 l.chcon && fieldFits 1 l.refsel && fieldFits 1 l.negbuf &&
    fieldFits 1 l.chop && tableOk [l.md, l.oscpd, l.chcon, l.refsel, l.negbuf, l.chop] l.reserved

/-- A CONTROL table keeps the widths RN 3, POL 1, CH 4 (R81). -/
def controlLayoutOk (l : ControlLayout) : Bool :=
  fieldFits 3 l.rn && fieldFits 1 l.pol && fieldFits 4 l.ch && tableOk [l.rn, l.pol, l.ch] l.reserved

/-- An IO table keeps the width 1 of each direction bit (R81). -/
def ioLayoutOk (l : IoLayout) : Bool :=
  fieldFits 1 l.p1dir && fieldFits 1 l.p2dir && tableOk [l.p1dir, l.p2dir] l.reserved

/-- Whether every replaceable layout table of the parameters is one that R81 admits. -/
def paramsOk (p : Params) : Bool := modeLayoutOk p.modeLayout && controlLayoutOk p.controlLayout && ioLayoutOk p.ioLayout

/-! ### Builders (R83 to R87) -/

/-- `build_mode` (R83): each named field set in turn, from 0x00. -/
def buildMode (l : ModeLayout) (md : BitVec 3) (oscpd chcon refsel negbuf chop : Bool) : Byte :=
  setField (setField (setField (setField (setField (setField 0x00#8 l.md (md.setWidth 8)) l.oscpd (bitByte oscpd))
    l.chcon (bitByte chcon)) l.refsel (bitByte refsel)) l.negbuf (bitByte negbuf)) l.chop (bitByte chop)

/-- `build_control` (R84). -/
def buildControl (l : ControlLayout) (ch : BitVec 4) (rn : BitVec 3) (pol : Bool) : Byte :=
  setField (setField (setField 0x00#8 l.ch (ch.setWidth 8)) l.rn (rn.setWidth 8)) l.pol (bitByte pol)

/-- `build_filter` (R85). -/
def buildFilter (sf : Byte) : Byte := sf

/-- `build_io` (R86). -/
def buildIo (l : IoLayout) (p1dir p2dir : Bool) : Byte :=
  setField (setField 0x00#8 l.p1dir (bitByte p1dir)) l.p2dir (bitByte p2dir)

/-- `with_md` (R87): the flags kept, the mode code replaced. -/
def withMd (l : ModeLayout) (v : Byte) (md : BitVec 3) : Byte := setField v l.md (md.setWidth 8)

/-- `comm_byte(a, rw, wen)` (spec/30_encoding.md R69); `rw` and `wen` are bits. -/
def commByte (l : CommLayout) (a : RegAddr) (rw wen : Bool) : Byte :=
  match l with
  | .doc => (a.setWidth 8 <<< 4) ||| (bitByte rw <<< 1) ||| bitByte wen
  | .datasheet => (bitByte wen <<< 7) ||| (bitByte rw <<< 6) ||| a.setWidth 8

end Sys2Proof.Machine
end

