-- ==== Sys2Proof/Machine/State.lean ====
section
/-! DEFINITION. The state of the block (spec/10_state.md R19 to R22), the point reached inside a running command (R20), the
port events in both directions (spec/00_scope.md R9, R10, R14), and the state after reset (spec/70_reset_and_hazards.md R157).
Fields that are the model's own are marked so. -/

namespace Sys2Proof.Machine

/-- The direction bit RW of a transaction: 0 write, 1 read (spec/20_memory.md R39). -/
inductive Direction where
  | write
  | read
  deriving DecidableEq, Repr

/-- The six register images (R19, R23). -/
inductive Image where
  | comm
  | status
  | mode
  | control
  | filter
  | io
  deriving DecidableEq, Repr

/-- `cal_state` (R22). -/
inductive CalState where
  | idle
  | requestZeroCal
  | awaitZeroCal
  | requestFullCal
  | awaitFullCal
  | done
  | timedOut
  | busFailed
  deriving DecidableEq, Repr

/-- The two calibration phases: zero-scale, then full-scale (spec/43_calibration.md R114). -/
inductive CalPhase where
  | zero
  | full
  deriving DecidableEq, Repr

/-- The statuses the block produces (spec/60_exceptions.md R137); codes 5 to 7 are never produced. -/
inductive RspStatus where
  | ok
  | busError
  | timeout
  | notPresent
  | illegal
  deriving DecidableEq, Repr

/-- The four writes of INIT, in order (spec/42_configuration.md R111). -/
inductive InitStage where
  | io
  | filter
  | control
  | mode
  deriving DecidableEq, Repr

/-- One answer of the bus engine. `ok lanes` answers a BusOut with ok and a BusIn(n) with the n bytes in lanes 0 to n - 1
(lane i is bits 8i+7 down to 8i), so that every draw of R9 and R14 is an answer and a BusIn's answer always has
exactly the requested number of bytes (log 3). -/
inductive BusAnswer where
  | ok (lanes : U32)
  | err
  deriving DecidableEq, Repr

/-- An answer of the environment: the bus engine's, the time source's, the delay source's (R9, R14). -/
inductive Answer where
  | bus (r : BusAnswer)
  | time (t : U32)
  | delayDone
  deriving DecidableEq, Repr

/-- One event of the environment (R9, R14, R20, R21, R157, R159), in the order they happen (log 2). -/
inductive Input where
  /-- The host presents a command word. -/
  | command (cw : CommandWord)
  /-- The host takes the response (`rsp_ready`). -/
  | take
  /-- The bus engine answers the pending request. -/
  | bus (r : BusAnswer)
  /-- The time input has this value. -/
  | time (t : U32)
  /-- The delay source ends the pending wait. -/
  | delayDone
  /-- An answer to a request, time sample or delay that a reset abandoned arrives, whatever the block awaits by then (R159). -/
  | late (a : Answer)
  /-- `Reset()`. -/
  | reset
  deriving DecidableEq, Repr

/-- One event the block emits on a port (R9); a bus request carries BUS_TIMEOUT_MS. -/
inductive PortEvent where
  | setCS (level : Bool)
  | busOut (bytes : List Byte) (timeoutMs : U32)
  | busIn (count : Nat) (timeoutMs : U32)
  | now
  | delay (ms : U32)
  | respond (status : RspStatus) (data : U32)
  deriving DecidableEq, Repr

/-- The arguments of `Transact(a, rw, n, wbytes)` (spec/41_transaction.md R90). -/
structure Transaction where
  addr : RegAddr
  dir : Direction
  len : Nat
  wbytes : List Byte
  deriving DecidableEq, Repr

/-- What a transaction returns (R90). -/
inductive TxnResult where
  | ok (rbytes : List Byte)
  | err
  deriving DecidableEq, Repr

/-- Which rule's pseudocode goes on when a transaction returns. -/
inductive Cont where
  /-- WRITE_REG (R97). -/
  | rawWrite
  /-- READ_REG (R98). -/
  | rawRead
  /-- A configuration command (R104 to R107). -/
  | config
  /-- INIT's write of one stage (R111). -/
  | init (stage : InitStage)
  /-- CALIBRATE's request write of one phase (R115, R123). -/
  | calRequest (phase : CalPhase)
  /-- CALIBRATE's poll read of one phase (R118). -/
  | calPoll (phase : CalPhase)
  /-- READ_CONV (R132). -/
  | readConv
  /-- PROBE (R134). -/
  | probe
  deriving DecidableEq, Repr

/-- The point reached inside the running command's pseudocode: the port event whose answer is awaited (R17, R20; log 1). -/
inductive Point where
  /-- `Transact` awaits the answer of its address-phase BusOut. -/
  | addrPhase (t : Transaction) (k : Cont)
  /-- `Transact` awaits the answer of its data-phase BusOut or BusIn. -/
  | dataPhase (t : Transaction) (k : Cont)
  /-- `Await` awaits its first time sample (R117). -/
  | pollStart (phase : CalPhase)
  /-- `Await` awaits the time sample after a read that was not idle (R118). -/
  | pollTime (phase : CalPhase)
  /-- `Await` awaits the end of its delay (R122). -/
  | pollDelay (phase : CalPhase)
  deriving DecidableEq, Repr

/-- Reasons the machine stops with a fault: none. The block has no trap and no fatal error (spec/60_exceptions.md R146,
R148); every failure is a status in the command's response. -/
inductive Fault where
  deriving DecidableEq, Repr

/-- Reasons the model refuses a step. -/
inductive Refusal where
  /-- An instruction without a meaning yet. No arm of exec raises it. Safe: the machine stops. -/
  | notModelled (mnemonic : String)
  /-- A replaced layout table breaks R81 ("A table that breaks this is refused"). Raised by step, whatever the instruction, and
  never under tables that R81 admits. Safe: the machine stops. -/
  | layoutTable
  deriving DecidableEq, Repr

/-- The state (R19), with the point inside a running command (R20) and three fields of the model's own. -/
structure State where
  /-- `img.COMM` -/
  imgComm : Byte
  /-- `img.STATUS` -/
  imgStatus : Byte
  /-- `img.MODE` -/
  imgMode : Byte
  /-- `img.CONTROL` -/
  imgControl : Byte
  /-- `img.FILTER` -/
  imgFilter : Byte
  /-- `img.IO` -/
  imgIo : Byte
  /-- `busy` -/
  busy : Bool
  /-- `cur_cw` -/
  curCw : CommandWord
  /-- `cal_state` -/
  calState : CalState
  /-- `poll_start` -/
  pollStart : U32
  /-- `poll_limit` -/
  pollLimit : U32
  /-- `cs`, the logical chip-select (true = asserted) -/
  cs : Bool
  /-- `rsp_valid` -/
  rspValid : Bool
  /-- `rsp_status` -/
  rspStatus : RspStatus
  /-- `rsp_data` -/
  rspData : U32
  /-- The rest of the control state (R20): the awaited port event, none while no command runs. -/
  point : Option Point
  /-- MODEL: the environment's events still to come (log 2). -/
  inputs : List Input
  /-- MODEL: the port events emitted so far, oldest first (log 10). -/
  trace : List PortEvent
  /-- MODEL: the implementation parameters, written by no step (log 6). -/
  params : Params
  deriving DecidableEq, Repr

/-- The machine right after reset (R157); the model's own fields are empty and the parameters R6's (log 6, log 13). -/
def State.reset : State :=
  { imgComm := 0x00#8
    imgStatus := 0x00#8
    imgMode := 0x00#8
    imgControl := 0x00#8
    imgFilter := 0x00#8
    imgIo := 0x00#8
    busy := false
    curCw := 0#64
    calState := .idle
    pollStart := 0#32
    pollLimit := 0#32
    cs := false
    rspValid := false
    rspStatus := .ok
    rspData := 0#32
    point := none
    inputs := []
    trace := []
    params := Params.default }

end Sys2Proof.Machine
end

