-- ==== Sys2Proof/Machine/Flags.lean ====
section
/-! DEFINITION. The block's outputs and compares. It has no arithmetic condition flag (spec/10_state.md R35); what it computes is
`cmd_ready`, `cs_pin`, the output codes, the idle sense and the poll-timer comparator. -/

namespace Sys2Proof.Machine

/-- `cmd_ready = (busy = 0) ∧ (rsp_valid = 0)` (R20). -/
def cmdReady (s : State) : Bool := !s.busy && !s.rspValid

/-- `cs_pin = cs XOR CS_ACTIVE_LOW` (spec/60_exceptions.md R152). -/
def csPin (s : State) : Bool := s.cs ^^ s.params.csActiveLow

/-- `rsp_status[2:0]` (spec/60_exceptions.md R137). -/
def statusCode : RspStatus → BitVec 3
  | .ok => 0#3
  | .busError => 1#3
  | .timeout => 2#3
  | .notPresent => 3#3
  | .illegal => 4#3

/-- `cal_state`'s 3-bit encoding (spec/10_state.md R22). -/
def calStateCode : CalState → BitVec 3
  | .idle => 0#3
  | .requestZeroCal => 1#3
  | .awaitZeroCal => 2#3
  | .requestFullCal => 3#3
  | .awaitFullCal => 4#3
  | .done => 5#3
  | .timedOut => 6#3
  | .busFailed => 7#3

/-- The idle sense (spec/43_calibration.md R119): only the mode code is compared. -/
def idleSense (l : ModeLayout) (b : Byte) : Bool := getField b l.md == 1#8

/-- `elapsed = (t − poll_start) mod 2^32` (R120). -/
def elapsed (pollStart t : U32) : U32 := t - pollStart

/-- The poll-timer comparator: `elapsed ≥ poll_limit`, unsigned (R120). -/
def pollExpired (pollStart pollLimit t : U32) : Bool := decide (pollLimit ≤ elapsed pollStart t)

end Sys2Proof.Machine
end

