-- ==== Sys2Proof/Machine/Operands.lean ====
section
/-! DEFINITION. Operand and data-phase assembly (spec/20_memory.md R44, spec/30_encoding.md R60, R67): which byte stands
where in ARG, on the bus and in `rsp_data`. -/

namespace Sys2Proof.Machine

/-- The RW bit of a direction: 0 write, 1 read (R39). -/
def directionBit : Direction → Bool
  | .write => false
  | .read => true

/-- Byte i of a 32-bit word: `v[8i+7:8i]` (R44). -/
def byteLane (v : U32) (i : Nat) : Byte := v.extractLsb' (8 * i) 8

/-- The first n bytes of a 32-bit word by increasing index (R44): WRITE_REG's data bytes of ARG (R60), and the bytes a BusIn(n)
receives (log 3). -/
def byteLanes (n : Nat) (v : U32) : List Byte := (List.range n).map (byteLane v)

/-- Received byte i, the first at index 0. A list that is too short has 0 there; no transaction of a command returns
one (log 14). -/
def byteAt (bytes : List Byte) (i : Nat) : Byte := bytes.getD i 0#8

/-- READ_REG's `Σ zext_32(rbytes[i]) << 8i` (spec/41_transaction.md R98). -/
def packBytes : List Byte → U32
  | [] => 0#32
  | b :: bs => b.setWidth 32 ||| (packBytes bs <<< 8)

/-- READ_CONV's `code = b0 || b1` (spec/44_acquisition.md R133): the first byte received is the high one. -/
def conversionCode (b0 b1 : Byte) : BitVec 16 := b0 ++ b1

/-- PROBE's `id[7:4]` (R134). -/
def highNibble (b : Byte) : BitVec 4 := b.extractLsb' 4 4

/-- The smaller of two unsigned values (spec/00_scope.md R7). -/
def minU32 (a b : U32) : U32 := if a ≤ b then a else b

end Sys2Proof.Machine
end

