-- ==== Sys2Proof/Machine/Ops.lean ====
section
/-! DEFINITION. The named operations over the state: images, ports, the response that ends a command (the block's whole exception
mechanism, spec/60_exceptions.md R146) and its take (the return, R147), reset, command acceptance, and the start of a
transaction (spec/41_transaction.md R90). -/

namespace Sys2Proof.Machine

/-- `img.X <- v` (R23). -/
def storeImage (x : Image) (v : Byte) (s : State) : State :=
  match x with
  | .comm => { s with imgComm := v }
  | .status => { s with imgStatus := v }
  | .mode => { s with imgMode := v }
  | .control => { s with imgControl := v }
  | .filter => { s with imgFilter := v }
  | .io => { s with imgIo := v }

/-- `img.X` (R23). -/
def loadImage (x : Image) (s : State) : Byte :=
  match x with
  | .comm => s.imgComm
  | .status => s.imgStatus
  | .mode => s.imgMode
  | .control => s.imgControl
  | .filter => s.imgFilter
  | .io => s.imgIo

/-- The block emits one port event, after all earlier ones (R51). -/
def emit (e : PortEvent) (s : State) : State := { s with trace := s.trace ++ [e] }

/-- `SetCS(b)` (R9, R91). -/
def setCS (level : Bool) (s : State) : State := emit (.setCS level) { s with cs := level }

/-- The pseudocode stops at a port event whose answer it awaits (R17, R20). -/
def awaitAt (p : Point) (s : State) : State := { s with point := some p }

/-- `cal_state <- c` (R22). -/
def setCalState (c : CalState) (s : State) : State := { s with calState := c }

/-- `Respond(status, data)` (R9, R20, R146): the one operation that ends a command, in success and in failure. It records the
status and the data, raises `rsp_valid` and clears `busy` in one event; nothing else is saved and control goes to no
vector. -/
def respond (status : RspStatus) (data : U32) (s : State) : State :=
  emit (.respond status data)
    { s with rspStatus := status, rspData := data, rspValid := true, busy := false, point := none }

/-- The response take (R21, R147): it clears `rsp_valid` and nothing else. While `rsp_valid = 0` it has no effect (R156). -/
def takeResponse (s : State) : State := { s with rspValid := false }

/-- `Reset()` (R157 to R159): every state item to its reset value, a running command abandoned without a response, no port
event. The parameters are no state (R161), and what the environment does next and what was emitted before stand. -/
def resetBlock (s : State) : State :=
  { State.reset with inputs := s.inputs, trace := s.trace, params := s.params }

/-- The answer to a request, time sample or delay that a reset abandoned "is ignored" (R159), also while a later command awaits
an answer of the same kind. -/
def ignoreLateAnswer (_a : Answer) (s : State) : State := s

/-- Command acceptance: `cur_cw <- CW`, `busy <- 1` (R20). -/
def acceptCommand (cw : CommandWord) (s : State) : State := { s with curCw := cw, busy := true }

/-- The command byte of a transaction with the given WEN, under the block's COMM_LAYOUT (R69). -/
def transactionByte (t : Transaction) (wen : Bool) (s : State) : Byte :=
  commByte s.params.commLayout t.addr (directionBit t.dir) wen

/-- `Transact` up to its first awaited event (R90): the command byte built fresh with WEN = 0, chip-select asserted, the
address phase requested. `k` is the rule that goes on when the transaction returns. -/
def beginTransact (t : Transaction) (k : Cont) (s : State) : State :=
  awaitAt (.addrPhase t k)
    (emit (.busOut [transactionByte t false s] s.params.busTimeoutMs)
      (setCS true (storeImage .comm (transactionByte t false s) s)))

/-- `RegWrite(a, bytes)` (R95). -/
def regWrite (a : RegAddr) (bytes : List Byte) (k : Cont) (s : State) : State :=
  beginTransact { addr := a, dir := .write, len := bytes.length, wbytes := bytes } k s

/-- `RegRead(a, n)` (R95). -/
def regRead (a : RegAddr) (n : Nat) (k : Cont) (s : State) : State :=
  beginTransact { addr := a, dir := .read, len := n, wbytes := [] } k s

/-- `ConfigWrite(a, X, v)` (spec/42_configuration.md R103): the image first, and kept whether or not the write succeeds. -/
def configWrite (a : RegAddr) (x : Image) (v : Byte) (k : Cont) (s : State) : State :=
  regWrite a [v] k (storeImage x v s)

/-- The image that an address backs in the read direction (R93). -/
def imageOfRead (a : RegAddr) : Option Image :=
  match a.toNat with
  | 0 => some .status
  | 1 => some .mode
  | 2 => some .control
  | 3 => some .filter
  | 7 => some .io
  | _ => none

/-- `update_image_on_read(a, b)` (R93): the byte as received. -/
def updateImageOnRead (a : RegAddr) (b : Byte) (s : State) : State :=
  match imageOfRead a with
  | some x => storeImage x b s
  | none => s

/-- R90's last lines: only a one-byte read updates an image. -/
def refreshImage (t : Transaction) (rbytes : List Byte) (s : State) : State :=
  if t.len = 1 then updateImageOnRead t.addr (byteAt rbytes 0) s else s

/-- The data phase's one bus request (R90, R47). -/
def dataRequest (t : Transaction) (s : State) : PortEvent :=
  match t.dir with
  | .write => .busOut t.wbytes s.params.busTimeoutMs
  | .read => .busIn t.len s.params.busTimeoutMs

/-- The end of a command whose status is its transaction's, without translation (R97, R108): OK or BUS_ERROR, data 0. -/
def respondResult (r : TxnResult) (s : State) : State :=
  match r with
  | .ok _ => respond .ok 0#32 s
  | .err => respond .busError 0#32 s

end Sys2Proof.Machine
end

