-- ==== Sys2Proof/Machine/Acquisition.lean ====
section
/-! DEFINITION. READ_CONV and PROBE (spec/44_acquisition.md R132 to R136). -/

namespace Sys2Proof.Machine

/-- READ_CONV (R132): a two-byte read of the data register. -/
def startReadConv (s : State) : State := regRead 4#4 2 .readConv s

/-- READ_CONV when its transaction has returned (R132, R133). -/
def afterReadConv (r : TxnResult) (s : State) : State :=
  match r with
  | .err => respond .busError 0#32 s
  | .ok rbytes => respond .ok ((conversionCode (byteAt rbytes 0) (byteAt rbytes 1)).setWidth 32) s

/-- PROBE (R134): a one-byte read of the ID register. -/
def startProbe (s : State) : State := regRead 15#4 1 .probe s

/-- The presence status of an ID byte: only the high nibble is compared (R134). -/
def presenceStatus (deviceId : BitVec 4) (id : Byte) : RspStatus :=
  if highNibble id = deviceId then .ok else .notPresent

/-- PROBE when its transaction has returned (R134); the whole ID byte is returned either way. -/
def afterProbe (r : TxnResult) (s : State) : State :=
  match r with
  | .err => respond .busError 0#32 s
  | .ok rbytes => respond (presenceStatus s.params.deviceId (byteAt rbytes 0)) ((byteAt rbytes 0).setWidth 32) s

end Sys2Proof.Machine
end

