-- ==== Sys2Proof/Machine/Calibration.lean ====
section
/-! DEFINITION. CALIBRATE: the two-phase calibration with its bounded poll (spec/43_calibration.md R114 to R131). -/

namespace Sys2Proof.Machine

/-- The mode code of a phase's request: 4 internal-zero-cal, 5 internal-full-cal (R115, R123). -/
def calCode : CalPhase → BitVec 3
  | .zero => 4#3
  | .full => 5#3

/-- The state in which a phase's request is written (R22). -/
def requestState : CalPhase → CalState
  | .zero => .requestZeroCal
  | .full => .requestFullCal

/-- The state in which a phase's poll runs (R22). -/
def awaitState : CalPhase → CalState
  | .zero => .awaitZeroCal
  | .full => .awaitFullCal

/-- A phase's request (R115, R123): the mode image with the mode code replaced and the flags kept, written to address 1. -/
def requestCal (phase : CalPhase) (s : State) : State :=
  configWrite 1#4 .mode (withMd s.params.modeLayout s.imgMode (calCode phase)) (.calRequest phase)
    (setCalState (requestState phase) s)

/-- CALIBRATE (R114, R116): the effective limit, then the zero-scale request. -/
def startCalibrate (timeout : U32) (s : State) : State :=
  requestCal .zero { s with pollLimit := minU32 timeout s.params.calHardLimitMs }

/-- CALIBRATE ended by a failed transaction (R126). -/
def calBusFailed (s : State) : State := respond .busError 0#32 (setCalState .busFailed s)

/-- CALIBRATE ended by the comparator (R125). -/
def calTimedOut (s : State) : State := respond .timeout 0#32 (setCalState .timedOut s)

/-- Idle observed (R123, R124): after the zero-scale phase the full-scale request, after the full-scale phase Done. -/
def calPhaseDone (phase : CalPhase) (s : State) : State :=
  match phase with
  | .zero => requestCal .full s
  | .full => respond .ok 0#32 (setCalState .done s)

/-- A phase's request write has returned: on success the await phase begins with a time sample (R117). -/
def afterCalRequest (phase : CalPhase) (r : TxnResult) (s : State) : State :=
  match r with
  | .err => calBusFailed s
  | .ok _ => awaitAt (.pollStart phase) (emit .now (setCalState (awaitState phase) s))

/-- One poll read: the mode register, one byte (R118). -/
def pollRead (phase : CalPhase) (s : State) : State := regRead 1#4 1 (.calPoll phase) s

/-- A poll read has returned (R118): the idle compare comes before the time compare. -/
def afterCalPoll (phase : CalPhase) (r : TxnResult) (s : State) : State :=
  match r with
  | .err => calBusFailed s
  | .ok rbytes =>
    if idleSense s.params.modeLayout (byteAt rbytes 0) then calPhaseDone phase s
    else awaitAt (.pollTime phase) (emit .now s)

/-- The time sample at the entry of an await phase: `poll_start <- Now()`, then the first poll read (R117). -/
def answerPollStart (phase : CalPhase) (t : U32) (s : State) : State := pollRead phase { s with pollStart := t }

/-- The time sample after a read that was not idle (R118, R120, R122). -/
def answerPollTime (phase : CalPhase) (t : U32) (s : State) : State :=
  if pollExpired s.pollStart s.pollLimit t then calTimedOut s
  else if s.params.pollDelayMs = 0#32 then pollRead phase s
  else awaitAt (.pollDelay phase) (emit (.delay s.params.pollDelayMs) s)

end Sys2Proof.Machine
end

