-- ==== Sys2Proof/Machine/Configuration.lean ====
section
/-! DEFINITION. CFG_MODE, CFG_CHANNEL, CFG_FILTER, CFG_IO (spec/42_configuration.md R104 to R108) and INIT (R111 to R113). -/

namespace Sys2Proof.Machine

/-- CFG_MODE (R104). -/
def startCfgMode (md : BitVec 3) (oscpd chcon refsel negbuf chop : Bool) (k : Cont) (s : State) : State :=
  configWrite 1#4 .mode (buildMode s.params.modeLayout md oscpd chcon refsel negbuf chop) k s

/-- CFG_CHANNEL (R105). -/
def startCfgChannel (ch : BitVec 4) (rn : BitVec 3) (pol : Bool) (k : Cont) (s : State) : State :=
  configWrite 2#4 .control (buildControl s.params.controlLayout ch rn pol) k s

/-- CFG_FILTER (R106). -/
def startCfgFilter (sf : Byte) (k : Cont) (s : State) : State := configWrite 3#4 .filter (buildFilter sf) k s

/-- CFG_IO (R107). -/
def startCfgIo (p1dir p2dir : Bool) (k : Cont) (s : State) : State :=
  configWrite 7#4 .io (buildIo s.params.ioLayout p1dir p2dir) k s

/-- A configuration command when its transaction has returned (R108). -/
def afterConfig (r : TxnResult) (s : State) : State := respondResult r s

/-- "register images zeroed" (R111). -/
def zeroImages (s : State) : State :=
  { s with
    imgComm := 0x00#8, imgStatus := 0x00#8, imgMode := 0x00#8, imgControl := 0x00#8, imgFilter := 0x00#8,
    imgIo := 0x00#8 }

/-- INIT's write of one stage (R111), with the values of R113's parameters; the mode code is 2. -/
def startInitStage (stage : InitStage) (s : State) : State :=
  match stage with
  | .io => startCfgIo s.params.initP1dir s.params.initP2dir (.init .io) s
  | .filter => startCfgFilter s.params.initFilter (.init .filter) s
  | .control => startCfgChannel s.params.initCh s.params.initRn s.params.initPol (.init .control) s
  | .mode =>
      startCfgMode 2#3 s.params.initOscpd s.params.initChcon s.params.initRefsel s.params.initNegbuf s.params.initChop
        (.init .mode) s

/-- INIT (R111). -/
def startInit (s : State) : State := startInitStage .io (zeroImages s)

/-- The stage after a stage, in R111's order; none after the mode write. -/
def nextInitStage : InitStage → Option InitStage
  | .io => some .filter
  | .filter => some .control
  | .control => some .mode
  | .mode => none

/-- INIT when the write of one stage has returned (R111, R112): the first failure ends it. -/
def afterInit (stage : InitStage) (r : TxnResult) (s : State) : State :=
  match r with
  | .err => respond .busError 0#32 s
  | .ok _ =>
    match nextInitStage stage with
    | some next => startInitStage next s
    | none => respond .ok 0#32 s

end Sys2Proof.Machine
end

