-- ==== Sys2Proof/Machine/RawAccess.lean ====
section
/-! DEFINITION. WRITE_REG and READ_REG (spec/41_transaction.md R97, R98) and the ILLEGAL response (spec/60_exceptions.md R139,
R140): how each starts, and how it goes on when its transaction returns. -/

namespace Sys2Proof.Machine

/-- An illegal command word: one response, no other effect (R139, R140). -/
def startIllegal (s : State) : State := respond .illegal 0#32 s

/-- WRITE_REG (R97): the length check, then one write transaction of the first LEN bytes of ARG. -/
def startWriteReg (addr : RegAddr) (len : BitVec 3) (arg : U32) (s : State) : State :=
  if maxXferBytes < len.toNat then startIllegal s
  else regWrite addr (byteLanes len.toNat arg) .rawWrite s

/-- READ_REG (R98): the length check, then one read transaction of LEN bytes. -/
def startReadReg (addr : RegAddr) (len : BitVec 3) (s : State) : State :=
  if maxXferBytes < len.toNat then startIllegal s
  else regRead addr len.toNat .rawRead s

/-- WRITE_REG when its transaction has returned (R97). -/
def afterWriteReg (r : TxnResult) (s : State) : State := respondResult r s

/-- READ_REG when its transaction has returned (R98). -/
def afterReadReg (r : TxnResult) (s : State) : State :=
  match r with
  | .ok rbytes => respond .ok (packBytes rbytes) s
  | .err => respond .busError 0#32 s

end Sys2Proof.Machine
end

