-- ==== Sys2Proof/Machine/Engine.lean ====
section
/-! DEFINITION. How a running command goes on: each awaited event's answer moves it to its next awaited event or to its response
(spec/00_scope.md R17, spec/10_state.md R20, spec/41_transaction.md R90), and how the block takes the environment's
next event. -/

namespace Sys2Proof.Machine

/-- A transaction returns to its rule. -/
def returnTo (k : Cont) (r : TxnResult) (s : State) : State :=
  match k with
  | .rawWrite => afterWriteReg r s
  | .rawRead => afterReadReg r s
  | .config => afterConfig r s
  | .init stage => afterInit stage r s
  | .calRequest phase => afterCalRequest phase r s
  | .calPoll phase => afterCalPoll phase r s
  | .readConv => afterReadConv r s
  | .probe => afterProbe r s

/-- The address phase has been answered (R90, R92, R94): WEN is restored on ok and on err; a failure, and a transaction without a
data phase, end the frame; else the data phase is requested in the same frame. -/
def answerAddrPhase (t : Transaction) (k : Cont) (r : BusAnswer) (s : State) : State :=
  match r with
  | .err => returnTo k .err (setCS false (storeImage .comm (transactionByte t true s) s))
  | .ok _ =>
    if t.len = 0 then returnTo k (.ok []) (setCS false (storeImage .comm (transactionByte t true s) s))
    else awaitAt (.dataPhase t k) (emit (dataRequest t s) (storeImage .comm (transactionByte t true s) s))

/-- The data phase has been answered (R90, R94): the frame ends on ok and on err; a successful read hands its bytes on, and
refreshes an image if it was a one-byte read (R93). -/
def answerDataPhase (t : Transaction) (k : Cont) (r : BusAnswer) (s : State) : State :=
  match r with
  | .err => returnTo k .err (setCS false s)
  | .ok lanes =>
    match t.dir with
    | .write => returnTo k (.ok []) (setCS false s)
    | .read => returnTo k (.ok (byteLanes t.len lanes)) (refreshImage t (byteLanes t.len lanes) (setCS false s))

/-- The bus engine answers. An answer nobody awaits is ignored (log 4). -/
def onBus (r : BusAnswer) (s : State) : State :=
  match s.point with
  | some (.addrPhase t k) => answerAddrPhase t k r s
  | some (.dataPhase t k) => answerDataPhase t k r s
  | some (.pollStart _) => s
  | some (.pollTime _) => s
  | some (.pollDelay _) => s
  | none => s

/-- The time input has a value. It is sampled only where a rule says `Now()` (R121). -/
def onTime (t : U32) (s : State) : State :=
  match s.point with
  | some (.pollStart phase) => answerPollStart phase t s
  | some (.pollTime phase) => answerPollTime phase t s
  | some (.addrPhase _ _) => s
  | some (.dataPhase _ _) => s
  | some (.pollDelay _) => s
  | none => s

/-- A delay ends: the next poll read (R122). -/
def onDelayDone (s : State) : State :=
  match s.point with
  | some (.pollDelay phase) => pollRead phase s
  | some (.addrPhase _ _) => s
  | some (.dataPhase _ _) => s
  | some (.pollStart _) => s
  | some (.pollTime _) => s
  | none => s

/-- One event of the environment, taken where no command is accepted: a command word presented then is ignored (R156). -/
def react (x : Input) (s : State) : State :=
  match x with
  | .command _ => s
  | .take => takeResponse s
  | .bus r => onBus r s
  | .time t => onTime t s
  | .delayDone => onDelayDone s
  | .late a => ignoreLateAnswer a s
  | .reset => resetBlock s

/-- A command runs: the environment's events are taken in order until it has responded or been reset. Where they run out first,
the command stays at the event it awaits (R167; log 2). -/
def settle : List Input → State → State
  | [], s => { s with inputs := [] }
  | x :: xs, s => if s.point.isSome then settle xs (react x s) else { s with inputs := x :: xs }

/-- A started command runs on the events that are still to come. -/
def runCommand (s : State) : State := settle s.inputs s

/-- What the block does next: run a command just accepted, or go to a state, or refuse its layout tables. -/
inductive Fetched where
  | run (i : Instr) (s : State)
  | state (s : State)
  | badTables
  deriving DecidableEq, Repr

/-- The environment's next event where no command runs (R20, R21, R156, R157): a command word is accepted exactly when
`cmd_ready = 1`, and ignored otherwise. -/
def takeInput (x : Input) (s : State) : Fetched :=
  match x with
  | .command cw => if cmdReady s then .run (decode cw) (acceptCommand cw s) else .state s
  | .take => .state (react .take s)
  | .bus r => .state (react (.bus r) s)
  | .time t => .state (react (.time t) s)
  | .delayDone => .state (react .delayDone s)
  | .late a => .state (react (.late a) s)
  | .reset => .state (react .reset s)

/-- The fetch: a command that is running goes on (R17); else the next event is taken; with no event the block waits
(R157). -/
def fetch (s : State) : Fetched :=
  if paramsOk s.params then
    match s.point with
    | some _ => .state (runCommand s)
    | none =>
      match s.inputs with
      | [] => .state s
      | x :: rest => takeInput x { s with inputs := rest }
  else .badTables

/-- The host presents a command word to a block that is ready for it: where step fetches its next command. -/
def presentCommand (cw : CommandWord) (s : State) : State :=
  { s with busy := false, rspValid := false, point := none, inputs := .command cw :: s.inputs }

end Sys2Proof.Machine
end

