-- ==== Sys2Proof/Machine/Commands.lean ====
section
/-! DEFINITION. The meaning of each command: its rule's pseudocode is started, and runs on the environment's answers to its response
(spec/00_scope.md R17). A command whose answers run out stays where it is, a next state too (spec/70_reset_and_hazards.md R167). -/

namespace Sys2Proof.Machine

/-- INIT (R111). -/
def execInit (s : State) : Host.Outcome State Fault Refusal := .next (runCommand (startInit s))

/-- WRITE_REG (R97). -/
def execWriteReg (addr : RegAddr) (len : BitVec 3) (arg : U32) (s : State) : Host.Outcome State Fault Refusal :=
  .next (runCommand (startWriteReg addr len arg s))

/-- READ_REG (R98). -/
def execReadReg (addr : RegAddr) (len : BitVec 3) (s : State) : Host.Outcome State Fault Refusal :=
  .next (runCommand (startReadReg addr len s))

/-- CFG_MODE (R104). -/
def execCfgMode (md : BitVec 3) (oscpd chcon refsel negbuf chop : Bool) (s : State) :
    Host.Outcome State Fault Refusal :=
  .next (runCommand (startCfgMode md oscpd chcon refsel negbuf chop .config s))

/-- CFG_CHANNEL (R105). -/
def execCfgChannel (ch : BitVec 4) (rn : BitVec 3) (pol : Bool) (s : State) : Host.Outcome State Fault Refusal :=
  .next (runCommand (startCfgChannel ch rn pol .config s))

/-- CFG_FILTER (R106). -/
def execCfgFilter (sf : Byte) (s : State) : Host.Outcome State Fault Refusal :=
  .next (runCommand (startCfgFilter sf .config s))

/-- CFG_IO (R107). -/
def execCfgIo (p1dir p2dir : Bool) (s : State) : Host.Outcome State Fault Refusal :=
  .next (runCommand (startCfgIo p1dir p2dir .config s))

/-- CALIBRATE (R114). -/
def execCalibrate (timeout : U32) (s : State) : Host.Outcome State Fault Refusal :=
  .next (runCommand (startCalibrate timeout s))

/-- READ_CONV (R132). -/
def execReadConv (s : State) : Host.Outcome State Fault Refusal := .next (runCommand (startReadConv s))

/-- PROBE (R134). -/
def execProbe (s : State) : Host.Outcome State Fault Refusal := .next (runCommand (startProbe s))

/-- SELECT_W a = WRITE_REG a, [] (R73, R101). -/
def execSelectW (addr : RegAddr) (s : State) : Host.Outcome State Fault Refusal :=
  .next (runCommand (startWriteReg addr 0#3 0#32 s))

/-- SELECT_R a = READ_REG a, 0 (R73, R101). -/
def execSelectR (addr : RegAddr) (s : State) : Host.Outcome State Fault Refusal :=
  .next (runCommand (startReadReg addr 0#3 s))

/-- READ_STATUS = READ_REG 0, 1 (R73, R100). -/
def execReadStatus (s : State) : Host.Outcome State Fault Refusal := .next (runCommand (startReadReg 0#4 1#3 s))

/-- READ_MODE = READ_REG 1, 1 (R73). -/
def execReadMode (s : State) : Host.Outcome State Fault Refusal := .next (runCommand (startReadReg 1#4 1#3 s))

/-- READ_CONTROL = READ_REG 2, 1 (R73). -/
def execReadControl (s : State) : Host.Outcome State Fault Refusal := .next (runCommand (startReadReg 2#4 1#3 s))

/-- READ_ID = READ_REG 15, 1 (R73). -/
def execReadId (s : State) : Host.Outcome State Fault Refusal := .next (runCommand (startReadReg 15#4 1#3 s))

/-- OP = 0x0 (R139). -/
def execIllegalOp0 (s : State) : Host.Outcome State Fault Refusal := .next (runCommand (startIllegal s))

/-- OP = 0xB (R139). -/
def execIllegalOpB (s : State) : Host.Outcome State Fault Refusal := .next (runCommand (startIllegal s))

/-- OP = 0xC to 0xF (R139); every other bit of the word is ignored. -/
def execIllegalOpCF (_low : BitVec 2) (s : State) : Host.Outcome State Fault Refusal :=
  .next (runCommand (startIllegal s))

/-- WRITE_REG with LEN 5 or 7 (R140). -/
def execIllegalWriteRegLen57 (_bit9 : Bool) (s : State) : Host.Outcome State Fault Refusal :=
  .next (runCommand (startIllegal s))

/-- WRITE_REG with LEN 6 or 7 (R140). -/
def execIllegalWriteRegLen67 (_bit8 : Bool) (s : State) : Host.Outcome State Fault Refusal :=
  .next (runCommand (startIllegal s))

/-- READ_REG with LEN 5 or 7 (R140). -/
def execIllegalReadRegLen57 (_bit9 : Bool) (s : State) : Host.Outcome State Fault Refusal :=
  .next (runCommand (startIllegal s))

/-- READ_REG with LEN 6 or 7 (R140). -/
def execIllegalReadRegLen67 (_bit8 : Bool) (s : State) : Host.Outcome State Fault Refusal :=
  .next (runCommand (startIllegal s))

end Sys2Proof.Machine
end

