-- ==== Sys2Proof/Machine/Dispatch.lean ====
section
/-! DEFINITION. One arm per command: which meaning each constructor of Instr has. -/

namespace Sys2Proof.Machine

def exec (i : Instr) (s : State) : Host.Outcome State Fault Refusal :=
  match i with
  | .init => Sys2Proof.Machine.execInit s
  | .writeReg addr len arg => Sys2Proof.Machine.execWriteReg addr len arg s
  | .readReg addr len => Sys2Proof.Machine.execReadReg addr len s
  | .cfgMode md oscpd chcon refsel negbuf chop => Sys2Proof.Machine.execCfgMode md oscpd chcon refsel negbuf chop s
  | .cfgChannel ch rn pol => Sys2Proof.Machine.execCfgChannel ch rn pol s
  | .cfgFilter sf => Sys2Proof.Machine.execCfgFilter sf s
  | .cfgIo p1dir p2dir => Sys2Proof.Machine.execCfgIo p1dir p2dir s
  | .calibrate timeout => Sys2Proof.Machine.execCalibrate timeout s
  | .readConv => Sys2Proof.Machine.execReadConv s
  | .probe => Sys2Proof.Machine.execProbe s
  | .selectW addr => Sys2Proof.Machine.execSelectW addr s
  | .selectR addr => Sys2Proof.Machine.execSelectR addr s
  | .readStatus => Sys2Proof.Machine.execReadStatus s
  | .readMode => Sys2Proof.Machine.execReadMode s
  | .readControl => Sys2Proof.Machine.execReadControl s
  | .readId => Sys2Proof.Machine.execReadId s
  | .illegalOp0 => Sys2Proof.Machine.execIllegalOp0 s
  | .illegalOpB => Sys2Proof.Machine.execIllegalOpB s
  | .illegalOpCF low => Sys2Proof.Machine.execIllegalOpCF low s
  | .illegalWriteRegLen57 bit9 => Sys2Proof.Machine.execIllegalWriteRegLen57 bit9 s
  | .illegalWriteRegLen67 bit8 => Sys2Proof.Machine.execIllegalWriteRegLen67 bit8 s
  | .illegalReadRegLen57 bit9 => Sys2Proof.Machine.execIllegalReadRegLen57 bit9 s
  | .illegalReadRegLen67 bit8 => Sys2Proof.Machine.execIllegalReadRegLen67 bit8 s

end Sys2Proof.Machine
end

