-- ==== Sys2Proof/Machine/Step.lean ====
section
/-! DEFINITION. The step: one environment event where no command runs, and with a command word that is accepted the whole command, to
its response or to the event it waits for (spec/00_scope.md R10, R17; log 1). -/

namespace Sys2Proof.Machine

/-- One step of the block. With nothing to take it waits (the same state again); it refuses only layout tables that R81
refuses. -/
def step (s : State) : Host.Outcome State Fault Refusal :=
  match fetch s with
  | .run i t => exec i t
  | .state t => .next t
  | .badTables => .refused .layoutTable

/-- The state in which the very next step accepts and runs the command word of a table row: the host presents it to a block that is
ready (R20). -/
def State.withFetchWord (s : State) (nbits w : Nat) : State := presentCommand (tableWord nbits w) s

end Sys2Proof.Machine
end

