-- ==== Sys2Proof/Safety.lean ====
section
/-! DEFINITION. What a safe block state is, and the words the statements use: the invariant of the control state, the events of a
chip-select frame, the state in which a command has ended, and the environment's events of a calibration poll. -/

namespace Sys2Proof.Safety

open Sys2Proof.Machine

/-! ### The invariant -/

/-- `cs` at a point: 1 exactly inside a transaction's frame (spec/41_transaction.md R91). -/
def csAt : Option Point → Bool
  | some (.addrPhase _ _) => true
  | some (.dataPhase _ _) => true
  | some (.pollStart _) => false
  | some (.pollTime _) => false
  | some (.pollDelay _) => false
  | none => false

/-- The control outputs agree with the point reached (R17, R20, R91): `busy` while a command runs, no response pending then, and
chip-select asserted exactly inside a frame. -/
def ControlOk (s : State) : Prop :=
  s.busy = s.point.isSome ∧ (s.busy = true → s.rspValid = false) ∧ s.cs = csAt s.point

/-- `img.COMM` between transactions: 0x00 before the first one after reset, else a command byte with WEN = 1 (R92). -/
def CommRests (s : State) : Prop :=
  s.imgComm = 0x00#8 ∨ ∃ a rw, s.imgComm = commByte s.params.commLayout a rw true

/-- `img.COMM` at every point (R92): WEN = 0 while the address phase is unanswered, WEN = 1 from its answer on. -/
def CommOk (s : State) : Prop :=
  match s.point with
  | some (.addrPhase t _) => s.imgComm = transactionByte t false s
  | some (.dataPhase t _) => s.imgComm = transactionByte t true s
  | some (.pollStart _) => CommRests s
  | some (.pollTime _) => CommRests s
  | some (.pollDelay _) => CommRests s
  | none => CommRests s

/-- A `cal_state` that no running calibration has (R22). -/
def calResting (c : CalState) : Bool :=
  match c with
  | .idle => true
  | .done => true
  | .timedOut => true
  | .busFailed => true
  | .requestZeroCal => false
  | .awaitZeroCal => false
  | .requestFullCal => false
  | .awaitFullCal => false

/-- `cal_state` while a transaction of the given rule runs (R22, spec/43_calibration.md R114). -/
def calStateUnder (k : Cont) (c : CalState) : Prop :=
  match k with
  | .calRequest phase => c = requestState phase
  | .calPoll phase => c = awaitState phase
  | .rawWrite => calResting c = true
  | .rawRead => calResting c = true
  | .config => calResting c = true
  | .init _ => calResting c = true
  | .readConv => calResting c = true
  | .probe => calResting c = true

/-- `cal_state` names the point of a running calibration (R22), and rests while none runs. -/
def CalStateOk (s : State) : Prop :=
  match s.point with
  | some (.addrPhase _ k) => calStateUnder k s.calState
  | some (.dataPhase _ k) => calStateUnder k s.calState
  | some (.pollStart phase) => s.calState = awaitState phase
  | some (.pollTime phase) => s.calState = awaitState phase
  | some (.pollDelay phase) => s.calState = awaitState phase
  | none => calResting s.calState = true

/-- The transaction a rule runs (R97, R98, R103, R111, R115, R118, R132, R134): the address, the direction, the length, and for an
image's write the byte the image holds. -/
def transactionOf (k : Cont) (t : Transaction) (s : State) : Prop :=
  match k with
  | .rawWrite => t.dir = .write ∧ t.len ≤ maxXferBytes ∧ t.wbytes.length = t.len
  | .rawRead => t.dir = .read ∧ t.len ≤ maxXferBytes ∧ t.wbytes = []
  | .config =>
      t = ⟨1#4, .write, 1, [s.imgMode]⟩ ∨ t = ⟨2#4, .write, 1, [s.imgControl]⟩ ∨ t = ⟨3#4, .write, 1, [s.imgFilter]⟩ ∨
        t = ⟨7#4, .write, 1, [s.imgIo]⟩
  | .init .io => t = ⟨7#4, .write, 1, [s.imgIo]⟩
  | .init .filter => t = ⟨3#4, .write, 1, [s.imgFilter]⟩
  | .init .control => t = ⟨2#4, .write, 1, [s.imgControl]⟩
  | .init .mode => t = ⟨1#4, .write, 1, [s.imgMode]⟩
  | .calRequest _ => t = ⟨1#4, .write, 1, [s.imgMode]⟩
  | .calPoll _ => t = ⟨1#4, .read, 1, []⟩
  | .readConv => t = ⟨4#4, .read, 2, []⟩
  | .probe => t = ⟨15#4, .read, 1, []⟩

/-- The awaited transaction is one its rule runs; a data phase has at least one byte (R90). -/
def TransactionOk (s : State) : Prop :=
  match s.point with
  | some (.addrPhase t k) => transactionOf k t s
  | some (.dataPhase t k) => transactionOf k t s ∧ t.len ≠ 0
  | some (.pollStart _) => True
  | some (.pollTime _) => True
  | some (.pollDelay _) => True
  | none => True

/-- The response registers (R72, R146): data 0 with every failure but NOT_PRESENT, which carries one byte. -/
def ResponseOk (s : State) : Prop :=
  match s.rspStatus with
  | .ok => True
  | .busError => s.rspData = 0#32
  | .timeout => s.rspData = 0#32
  | .notPresent => s.rspData.toNat < 256
  | .illegal => s.rspData = 0#32

/-- The poll limit never exceeds the hard ceiling (R116). -/
def LimitOk (s : State) : Prop := s.pollLimit.toNat ≤ s.params.calHardLimitMs.toNat

/-- The invariant of the block's control state. -/
structure Inv (s : State) : Prop where
  control : ControlOk s
  comm : CommOk s
  calState : CalStateOk s
  transaction : TransactionOk s
  response : ResponseOk s
  limit : LimitOk s

/-! ### Words for events -/

/-- The address-phase request of a frame (R70): one byte, WEN = 0. -/
def addressRequest (p : Params) (a : RegAddr) (rw : Bool) : PortEvent :=
  .busOut [commByte p.commLayout a rw false] p.busTimeoutMs

/-- The events of a frame with no data phase: LEN = 0, or a failed address phase (R101, R102). -/
def addressFrame (p : Params) (a : RegAddr) (rw : Bool) : List PortEvent :=
  [.setCS true, addressRequest p a rw, .setCS false]

/-- The events of a write frame (R90). -/
def writeFrame (p : Params) (a : RegAddr) (bytes : List Byte) : List PortEvent :=
  [.setCS true, addressRequest p a false, .busOut bytes p.busTimeoutMs, .setCS false]

/-- The events of a read frame (R90). -/
def readFrame (p : Params) (a : RegAddr) (n : Nat) : List PortEvent :=
  [.setCS true, addressRequest p a true, .busIn n p.busTimeoutMs, .setCS false]

/-- The status of a command whose last transaction was answered so (R108, R142). -/
def statusOf : BusAnswer → RspStatus
  | .ok _ => .ok
  | .err => .busError

/-- The state in which a command has ended with a response, after the given events and with the given events of the environment left
over: `s` with the response registers, `busy`, `cs`, the point, the trace and the inputs replaced (R20, R91, R146). -/
def ended (s : State) (events : List PortEvent) (status : RspStatus) (data : U32) (rest : List Input) : State :=
  { s with
    busy := false, point := none, cs := false, rspValid := true, rspStatus := status, rspData := data, inputs := rest,
    trace := s.trace ++ events ++ [.respond status data] }

/-- No reset among the environment's events. -/
def noReset (xs : List Input) : Prop := Input.reset ∉ xs

/-- How often chip-select is driven to a level. -/
def csCount (level : Bool) (events : List PortEvent) : Nat := events.count (.setCS level)

/-- Whether an event is a read request on the bus. -/
def isBusIn : PortEvent → Bool
  | .busIn _ _ => true
  | .setCS _ => false
  | .busOut _ _ => false
  | .now => false
  | .delay _ => false
  | .respond _ _ => false

/-- Whether an event is a response. -/
def isRespond : PortEvent → Bool
  | .respond _ _ => true
  | .setCS _ => false
  | .busOut _ _ => false
  | .busIn _ _ => false
  | .now => false
  | .delay _ => false

/-- Whether an event is a time sample. -/
def isNow : PortEvent → Bool
  | .now => true
  | .setCS _ => false
  | .busOut _ _ => false
  | .busIn _ _ => false
  | .delay _ => false
  | .respond _ _ => false

/-! ### Words for commands -/

/-- The rows of an illegal command word (R139, R140). -/
def isIllegalRow : Instr → Bool
  | .illegalOp0 => true
  | .illegalOpB => true
  | .illegalOpCF _ => true
  | .illegalWriteRegLen57 _ => true
  | .illegalWriteRegLen67 _ => true
  | .illegalReadRegLen57 _ => true
  | .illegalReadRegLen67 _ => true
  | .init => false
  | .writeReg _ _ _ => false
  | .readReg _ _ => false
  | .cfgMode _ _ _ _ _ _ => false
  | .cfgChannel _ _ _ => false
  | .cfgFilter _ => false
  | .cfgIo _ _ => false
  | .calibrate _ => false
  | .readConv => false
  | .probe => false
  | .selectW _ => false
  | .selectR _ => false
  | .readStatus => false
  | .readMode => false
  | .readControl => false
  | .readId => false

/-- The statuses a well-formed command can produce (spec/60_exceptions.md R138). -/
def allowedStatuses : Instr → List RspStatus
  | .init => [.ok, .busError]
  | .writeReg _ _ _ => [.ok, .busError]
  | .readReg _ _ => [.ok, .busError]
  | .cfgMode _ _ _ _ _ _ => [.ok, .busError]
  | .cfgChannel _ _ _ => [.ok, .busError]
  | .cfgFilter _ => [.ok, .busError]
  | .cfgIo _ _ => [.ok, .busError]
  | .calibrate _ => [.ok, .busError, .timeout]
  | .readConv => [.ok, .busError]
  | .probe => [.ok, .busError, .notPresent]
  | .selectW _ => [.ok, .busError]
  | .selectR _ => [.ok, .busError]
  | .readStatus => [.ok, .busError]
  | .readMode => [.ok, .busError]
  | .readControl => [.ok, .busError]
  | .readId => [.ok, .busError]
  | .illegalOp0 => [.illegal]
  | .illegalOpB => [.illegal]
  | .illegalOpCF _ => [.illegal]
  | .illegalWriteRegLen57 _ => [.illegal]
  | .illegalWriteRegLen67 _ => [.illegal]
  | .illegalReadRegLen57 _ => [.illegal]
  | .illegalReadRegLen67 _ => [.illegal]

/-- The commands that write no image but `img.COMM`, whatever the chip answers (R93, R97, R132, R134, R139): no configuration, no
calibration, no INIT, and no one-byte read of an address that backs an image. -/
def leavesImages : Instr → Bool
  | .init => false
  | .writeReg _ _ _ => true
  | .readReg addr len =>
      !(len == 1#3 && (addr == 0#4 || addr == 1#4 || addr == 2#4 || addr == 3#4 || addr == 7#4))
  | .cfgMode _ _ _ _ _ _ => false
  | .cfgChannel _ _ _ => false
  | .cfgFilter _ => false
  | .cfgIo _ _ => false
  | .calibrate _ => false
  | .readConv => true
  | .probe => true
  | .selectW _ => true
  | .selectR _ => true
  | .readStatus => false
  | .readMode => false
  | .readControl => false
  | .readId => true
  | .illegalOp0 => true
  | .illegalOpB => true
  | .illegalOpCF _ => true
  | .illegalWriteRegLen57 _ => true
  | .illegalWriteRegLen67 _ => true
  | .illegalReadRegLen57 _ => true
  | .illegalReadRegLen67 _ => true

/-- The four configuration commands and INIT, which never read the chip (R110, R111). -/
def onlyWrites : Instr → Bool
  | .init => true
  | .writeReg _ _ _ => false
  | .readReg _ _ => false
  | .cfgMode _ _ _ _ _ _ => true
  | .cfgChannel _ _ _ => true
  | .cfgFilter _ => true
  | .cfgIo _ _ => true
  | .calibrate _ => false
  | .readConv => false
  | .probe => false
  | .selectW _ => false
  | .selectR _ => false
  | .readStatus => false
  | .readMode => false
  | .readControl => false
  | .readId => false
  | .illegalOp0 => false
  | .illegalOpB => false
  | .illegalOpCF _ => false
  | .illegalWriteRegLen57 _ => false
  | .illegalWriteRegLen67 _ => false
  | .illegalReadRegLen57 _ => false
  | .illegalReadRegLen67 _ => false

/-- The bits of a command word that its operation reads, by OP and LEN (R57, R59 to R66, R139); every other bit is ignored (R68). -/
def usedBits (op : BitVec 4) (len : BitVec 3) : CommandWord :=
  match op.toNat with
  | 2 => 0x7FF#64 ||| ((usedArgMask len).setWidth 64 <<< 16)
  | 3 => 0x7FF#64
  | 4 => 0x1F07000F#64
  | 5 => 0x1070F000F#64
  | 6 => 0xFF000F#64
  | 7 => 0x3000F#64
  | 8 => 0xFFFFFFFF000F#64
  | _ => 0xF#64

/-- The state after the response to an illegal command word: the response registers, `busy`, the point and the trace (R139). -/
def illegalEnded (s : State) : State :=
  { s with
    busy := false, point := none, rspValid := true, rspStatus := .illegal, rspData := 0#32,
    trace := s.trace ++ [.respond .illegal 0#32] }

/-! ### The frame discipline -/

/-- Whether a byte is the command byte of some address in the given direction with WEN = 0 (R70). -/
def isCommandByte (p : Params) (rw : Bool) (b : Byte) : Bool := decide (∃ a : RegAddr, b = commByte p.commLayout a rw false)

/-- Where the port events stand in a chip-select frame (R47, R51). -/
inductive FramePoint where
  /-- Chip-select is not asserted. -/
  | outside
  /-- Asserted, nothing sent yet. -/
  | selected
  /-- A command byte of the given direction has been sent: 0 write, 1 read. -/
  | addressed (rw : Bool)
  /-- The one data-phase request has been made. -/
  | dataRequested
  deriving DecidableEq, Repr

/-- The events a frame admits at each point, none otherwise (R47, R51, R70, R90, R96): after the assertion one BusOut of a command byte with
WEN = 0, then at most one data-phase request, a BusOut after a write's command byte and a BusIn after a read's, then the deassertion; outside
a frame no bus request. -/
def frameStep (p : Params) (f : FramePoint) (e : PortEvent) : Option FramePoint :=
  match f, e with
  | .outside, .setCS true => some .selected
  | .outside, .setCS false => none
  | .outside, .busOut _ _ => none
  | .outside, .busIn _ _ => none
  | .outside, .now => some .outside
  | .outside, .delay _ => some .outside
  | .outside, .respond _ _ => some .outside
  | .selected, .busOut [b] _ =>
      if isCommandByte p false b then some (.addressed false)
      else if isCommandByte p true b then some (.addressed true) else none
  | .selected, _ => none
  | .addressed false, .busOut _ _ => some .dataRequested
  | .addressed true, .busIn _ _ => some .dataRequested
  | .addressed _, .setCS false => some .outside
  | .addressed _, _ => none
  | .dataRequested, .setCS false => some .outside
  | .dataRequested, _ => none

/-- A run of events through the frame discipline; none where an event is not admitted. -/
def frameRun (p : Params) (f : FramePoint) : List PortEvent → Option FramePoint
  | [] => some f
  | e :: es =>
    match frameStep p f e with
    | some f' => frameRun p f' es
    | none => none

/-! ### Words for calibration -/

/-- One iteration of the poll that neither ends the phase nor times out (R118): the answer of the read's address phase, the byte
read, the time sample after it. -/
structure PollRound where
  addrLanes : U32
  lanes : U32
  time : U32
  deriving DecidableEq, Repr

/-- The environment's events of a one-byte read answered with a byte in lane 0. -/
def readAnswers (addrLanes lanes : U32) : List Input := [.bus (.ok addrLanes), .bus (.ok lanes)]

/-- The environment's events of one poll iteration (R118, R122). -/
def roundInputs (p : Params) (r : PollRound) : List Input :=
  readAnswers r.addrLanes r.lanes ++ .time r.time :: (if p.pollDelayMs = 0#32 then [] else [.delayDone])

/-- The block's events in one poll iteration (R118, R122). -/
def roundEvents (p : Params) : List PortEvent :=
  readFrame p 1#4 1 ++ .now :: (if p.pollDelayMs = 0#32 then [] else [.delay p.pollDelayMs])

/-- A read byte that is not idle (R119). -/
def notIdle (p : Params) (lanes : U32) : Prop := getField (lanes.setWidth 8) p.modeLayout.md ≠ 1#8

/-- A read byte that is idle (R119). -/
def readsIdle (p : Params) (lanes : U32) : Prop := getField (lanes.setWidth 8) p.modeLayout.md = 1#8

/-- R120's expiry, on unsigned numbers: `(t − start) mod 2^32 ≥ limit`. -/
def expiredAt (start limit t : U32) : Prop := limit.toNat ≤ (t.toNat + 2 ^ 32 - start.toNat) % 2 ^ 32

/-- R116's effective limit on unsigned numbers. -/
def effectiveLimit (p : Params) (timeout : U32) : U32 :=
  BitVec.ofNat 32 (min timeout.toNat p.calHardLimitMs.toNat)

/-- The environment's events of a phase up to its last read: the two answers of the request write, the entry sample, the iterations
that go on (R115, R117, R118). -/
def phaseInputs (p : Params) (l l' t : U32) (rounds : List PollRound) : List Input :=
  .bus (.ok l) :: .bus (.ok l') :: .time t :: rounds.flatMap (roundInputs p)

/-- The block's events of a phase up to its last read, with the mode byte its request writes. -/
def phaseEvents (p : Params) (v : Byte) (rounds : List PollRound) : List PortEvent :=
  writeFrame p 1#4 [v] ++ .now :: rounds.flatMap (fun _ => roundEvents p)

/-- Every iteration read a mode code that is not idle, and its time sample did not expire (R118). -/
def roundsGoOn (p : Params) (start limit : U32) (rounds : List PollRound) : Prop :=
  ∀ r ∈ rounds, notIdle p r.lanes ∧ ¬ expiredAt start limit r.time

/-- The mode image after a phase's iterations: the last byte read (R93), or the byte before them. -/
def modeAfterRounds (v : Byte) (rounds : List PollRound) : Byte := rounds.foldl (fun _ r => r.lanes.setWidth 8) v

/-- `img.COMM` after a poll read, WEN = 1 (R92). -/
def pollComm (p : Params) : Byte := commByte p.commLayout 1#4 true true

/-- `img.COMM` after a request write. -/
def requestComm (p : Params) : Byte := commByte p.commLayout 1#4 false true

/-- The draws of an environment that answers everything it is asked: the j-th bus answer and the j-th time sample (R14). -/
structure Draws where
  bus : Nat → BusAnswer
  time : Nat → U32

/-- The event that answers what the block awaits at a point, when `b` bus answers and `t` time samples have been drawn. -/
def awaitedAnswer (d : Draws) (b t : Nat) : Point → Input
  | .addrPhase _ _ => .bus (d.bus b)
  | .dataPhase _ _ => .bus (d.bus b)
  | .pollStart _ => .time (d.time t)
  | .pollTime _ => .time (d.time t)
  | .pollDelay _ => .delayDone

/-- The number of bus answers drawn after the answer at a point. -/
def busDrawn (b : Nat) : Point → Nat
  | .addrPhase _ _ => b + 1
  | .dataPhase _ _ => b + 1
  | .pollStart _ => b
  | .pollTime _ => b
  | .pollDelay _ => b

/-- The number of time samples drawn after the answer at a point. -/
def timeDrawn (t : Nat) : Point → Nat
  | .addrPhase _ _ => t
  | .dataPhase _ _ => t
  | .pollStart _ => t + 1
  | .pollTime _ => t + 1
  | .pollDelay _ => t

/-- Up to k steps of a running command, each on the one answer it awaits: none if a step gives no next state; a command that has ended
takes no further answer. -/
def served (d : Draws) : Nat → Nat → Nat → State → Option State
  | 0, _, _, s => some s
  | k + 1, b, t, s =>
    match s.point with
    | none => some s
    | some p =>
      match step { s with inputs := [awaitedAnswer d b t p] } with
      | .next u => served d k (busDrawn b p) (timeDrawn t p) u
      | .fault _ => none
      | .refused _ => none

/-- A bus and a clock that answer everything, the clock one millisecond later at each round: two bus answers, a time sample, the end of a
delay. A round holds a time sample or the end of a delay also where none is awaited; the model drops it (log 4). -/
def clockedInputs (t0 : U32) (answers : List (U32 × U32)) : List Input :=
  (answers.zipIdx).flatMap fun a =>
    [.bus (.ok a.1.1), .bus (.ok a.1.2), .time (t0 + BitVec.ofNat 32 a.2), .delayDone]

end Sys2Proof.Safety
end

