-- ==== Sys2Proof/Certificates/Slice0/Obligations.lean ====
section
/-! DEFINITION. The statements for the provers, by the rules of spec/. -/

open Sys2Proof Sys2Proof.Machine Sys2Proof.Safety

/-! ### Encodings (spec/30_encoding.md) -/

/-- Decode and encode agree on every well-formed command (R57, R60 to R66). Which terms are well formed is the model's choice (log 8). -/
def Obligations.EncodedCommandsDecodeBack : Prop := ∀ i : Instr, i.wf = true → decode (encode i) = i

/-- Every 64-bit value is one complete command (R57), a well-formed one in the model's sense (log 8). -/
def Obligations.EveryWordDecodesWellFormed : Prop := ∀ cw : CommandWord, (decode cw).wf = true

/-- A bit the operation does not read changes nothing of what is decoded (R59, R66, R68). -/
def Obligations.IgnoredBitsDoNotMatter : Prop :=
  ∀ cw m : CommandWord, m &&& usedBits (opField cw) (lenField cw) = 0#64 → decode (cw ^^^ m) = decode cw

/-- The illegal words are those of R68 and no others: OP 0x0 and 0xB to 0xF, and OP 0x2 or 0x3 with LEN ≥ 5. -/
def Obligations.IllegalWordsAreExactlyThese : Prop :=
  ∀ cw : CommandWord, isIllegalRow (decode cw) = true ↔
    (cw.toNat % 16 = 0 ∨ 11 ≤ cw.toNat % 16 ∨
      ((cw.toNat % 16 = 2 ∨ cw.toNat % 16 = 3) ∧ 5 ≤ cw.toNat / 256 % 8))

/-- The OP field selects the operation, and the fields of its sub-layout are its operands (R58, R61 to R65). A word of WRITE_REG or READ_REG runs
as that operation with the word's ADDR, LEN and ARG, whichever row names it (log 8). -/
def Obligations.WordsRunTheirOperation : Prop :=
  ∀ (cw : CommandWord) (s : State),
    let op : BitVec 4 := cw.extractLsb' 0 4
    let addr : RegAddr := cw.extractLsb' 4 4
    let len : BitVec 3 := cw.extractLsb' 8 3
    let arg : U32 := cw.extractLsb' 16 32
    (op = 0x1#4 → decode cw = .init) ∧
    (op = 0x2#4 → exec (decode cw) s = exec (.writeReg addr len arg) s) ∧
    (op = 0x3#4 → exec (decode cw) s = exec (.readReg addr len) s) ∧
    (op = 0x4#4 → decode cw = .cfgMode (arg.extractLsb' 0 3) (arg.getLsbD 8) (arg.getLsbD 9) (arg.getLsbD 10)
      (arg.getLsbD 11) (arg.getLsbD 12)) ∧
    (op = 0x5#4 → decode cw = .cfgChannel (arg.extractLsb' 0 4) (arg.extractLsb' 8 3) (arg.getLsbD 16)) ∧
    (op = 0x6#4 → decode cw = .cfgFilter (arg.extractLsb' 0 8)) ∧
    (op = 0x7#4 → decode cw = .cfgIo (arg.getLsbD 0) (arg.getLsbD 1)) ∧
    (op = 0x8#4 → decode cw = .calibrate arg) ∧
    (op = 0x9#4 → decode cw = .readConv) ∧
    (op = 0xA#4 → decode cw = .probe) ∧
    (op = 0x0#4 ∨ 0xB#4 ≤ op → isIllegalRow (decode cw) = true)

/-- R74's encoding examples, read both ways. That the words of pseudo-instructions are named so is the model's choice (log 8). -/
def Obligations.CommandWordExamples : Prop :=
  (∀ x ∈ ([(.init, 0x0000000000000001#64), (.writeReg 3#4 1#3 0x45#32, 0x0000000000450132#64),
      (.writeReg 5#4 2#3 0x3412#32, 0x0000000034120252#64), (.selectW 0#4, 0x0000000000000002#64),
      (.readControl, 0x0000000000000123#64), (.readMode, 0x0000000000000113#64), (.readId, 0x00000000000001F3#64),
      (.cfgMode 2#3 false true false false true, 0x0000000012020004#64), (.cfgChannel 3#4 7#3 true, 0x0000000107030005#64),
      (.cfgFilter 0x45#8, 0x0000000000450006#64), (.cfgIo true false, 0x0000000000010007#64),
      (.calibrate 500#32, 0x0000000001F40008#64), (.readConv, 0x0000000000000009#64),
      (.probe, 0x000000000000000A#64)] : List (Instr × CommandWord)), decode x.2 = x.1 ∧ encode x.1 = x.2)

/-- The command byte, under both layouts (R69). The DATASHEET order rests on what the spec marks as general knowledge (log 12). -/
def Obligations.CommandByteIsBuiltByLayout : Prop :=
  ∀ (a : RegAddr) (rw wen : Bool),
    (commByte .doc a rw wen).toNat = a.toNat * 16 + rw.toNat * 2 + wen.toNat ∧
      (commByte .datasheet a rw wen).toNat = wen.toNat * 128 + rw.toNat * 64 + a.toNat

/-! ### The register-image encoder (spec/40_register_image.md) -/

/-- Reserved-zero law, for every table that R81 admits (R88). -/
def Obligations.BuiltImagesHaveReservedZero : Prop :=
  ∀ p : Params, paramsOk p = true →
    (∀ md oscpd chcon refsel negbuf chop,
      buildMode p.modeLayout md oscpd chcon refsel negbuf chop &&& p.modeLayout.reserved = 0#8) ∧
    (∀ ch rn pol, buildControl p.controlLayout ch rn pol &&& p.controlLayout.reserved = 0#8) ∧
    (∀ sf, buildFilter sf &&& 0x00#8 = 0#8) ∧
    (∀ p1dir p2dir, buildIo p.ioLayout p1dir p2dir &&& p.ioLayout.reserved = 0#8) ∧
    (∀ l a rw wen, commByte l a rw wen &&& commReserved l = 0#8) ∧
    (p.modeLayout.reserved = 0x00#8 → ∀ v md, withMd p.modeLayout v md &&& p.modeLayout.reserved = 0#8)

/-- Round-trip law, for every table that R81 admits (R89): each field of a built image reads back as the input given for it. `with_md` replaces the
mode code and keeps the five flags (R87). -/
def Obligations.BuiltFieldsReadBack : Prop :=
  ∀ p : Params, paramsOk p = true →
    (∀ md oscpd chcon refsel negbuf chop,
      let v := buildMode p.modeLayout md oscpd chcon refsel negbuf chop
      (getField v p.modeLayout.md).toNat = md.toNat ∧ (getField v p.modeLayout.oscpd).toNat = oscpd.toNat ∧
        (getField v p.modeLayout.chcon).toNat = chcon.toNat ∧ (getField v p.modeLayout.refsel).toNat = refsel.toNat ∧
        (getField v p.modeLayout.negbuf).toNat = negbuf.toNat ∧ (getField v p.modeLayout.chop).toNat = chop.toNat) ∧
    (∀ ch rn pol,
      let v := buildControl p.controlLayout ch rn pol
      (getField v p.controlLayout.ch).toNat = ch.toNat ∧ (getField v p.controlLayout.rn).toNat = rn.toNat ∧
        (getField v p.controlLayout.pol).toNat = pol.toNat) ∧
    (∀ sf, getField (buildFilter sf) wholeByteField = sf) ∧
    (∀ p1dir p2dir,
      let v := buildIo p.ioLayout p1dir p2dir
      (getField v p.ioLayout.p1dir).toNat = p1dir.toNat ∧ (getField v p.ioLayout.p2dir).toNat = p2dir.toNat) ∧
    (∀ v md,
      let w := withMd p.modeLayout v md
      (getField w p.modeLayout.md).toNat = md.toNat ∧
        getField w p.modeLayout.oscpd = getField v p.modeLayout.oscpd ∧
        getField w p.modeLayout.chcon = getField v p.modeLayout.chcon ∧
        getField w p.modeLayout.refsel = getField v p.modeLayout.refsel ∧
        getField w p.modeLayout.negbuf = getField v p.modeLayout.negbuf ∧
        getField w p.modeLayout.chop = getField v p.modeLayout.chop) ∧
    (∀ l a rw wen,
      let v := commByte l a rw wen
      (getField v (commAddrField l)).toNat = a.toNat ∧ (getField v (commRwField l)).toNat = rw.toNat ∧
        (getField v (commWenField l)).toNat = wen.toNat)

/-- The merged and the functional view agree (R80): a field read is the sum of its bits, and a field write changes exactly its bits. -/
def Obligations.MergedAndFunctionalViewsAgree : Prop :=
  ∀ (v x : Byte) (f : Field), f.lo ≤ f.hi → f.hi ≤ 7 →
    (getField v f).toNat = ∑ i ∈ Finset.Icc f.lo f.hi, (getBit v i).toNat * 2 ^ (i - f.lo) ∧
      ∀ i, i ≤ 7 → getBit (setField v f x) i = if f.lo ≤ i ∧ i ≤ f.hi then getBit x (i - f.lo) else getBit v i

/-- `set_bit` replaces one bit and changes no other (R77). -/
def Obligations.SetBitReplacesOneBit : Prop :=
  ∀ (v : Byte) (i j : Nat) (b : Bool), i ≤ 7 → j ≤ 7 → getBit (setBit v i b) j = if j = i then b else getBit v j

/-- The bytes of the builders under the default tables (R83 to R87), whose positions the spec marks as general knowledge (log 12). -/
def Obligations.DefaultLayoutBytes : Prop :=
  (∀ (md : BitVec 3) (oscpd chcon refsel negbuf chop : Bool),
    (buildMode ModeLayout.default md oscpd chcon refsel negbuf chop).toNat =
      chop.toNat * 128 + negbuf.toNat * 64 + refsel.toNat * 32 + chcon.toNat * 16 + oscpd.toNat * 8 + md.toNat) ∧
  (∀ (ch : BitVec 4) (rn : BitVec 3) (pol : Bool),
    (buildControl ControlLayout.default ch rn pol).toNat = ch.toNat * 16 + pol.toNat * 8 + rn.toNat) ∧
  (∀ p1dir p2dir : Bool, (buildIo IoLayout.default p1dir p2dir).toNat = p2dir.toNat * 32 + p1dir.toNat * 16) ∧
  withMd ModeLayout.default 0x92#8 4#3 = 0x94#8

/-! ### The block as a whole (spec/10_state.md, spec/60_exceptions.md, spec/70_reset_and_hazards.md) -/

/-- A step runs the decoded command (R20): a ready block latches the word, sets `busy` and starts the rule the word selects. That a step is
the whole command is the model's choice (log 1). -/
def Obligations.StepRunsAcceptedCommand : Prop :=
  ∀ (s : State) (cw : CommandWord) (rest : List Input), paramsOk s.params = true → s.point = none → s.busy = false →
    s.rspValid = false → s.inputs = .command cw :: rest →
    step s = exec (decode cw) { s with inputs := rest, curCw := cw, busy := true }

/-- A table word placed where the next command is fetched runs as the next step (R20, R57). The host presenting the word is the
model's choice (log 2). -/
def Obligations.TableWordRunsNext : Prop :=
  ∀ (s : State) (nbits w : Nat) (i : Instr), paramsOk s.params = true → decodeTableWord nbits w = some i →
    step (s.withFetchWord nbits w) =
      exec i { s with busy := true, curCw := tableWord nbits w, rspValid := false, point := none }

/-- Commands and takes at the wrong time have no effect (R156): while a command runs, and while a response is pending or the block is otherwise
not ready. -/
def Obligations.WrongTimeEventsAreIgnored : Prop :=
  (∀ (s : State) (cw : CommandWord) (rest : List Input), paramsOk s.params = true → s.point = none →
    (s.busy = true ∨ s.rspValid = true) → s.inputs = .command cw :: rest → step s = .next { s with inputs := rest }) ∧
  (∀ (s : State) (rest : List Input), paramsOk s.params = true → s.point = none → s.rspValid = false →
    s.inputs = .take :: rest → step s = .next { s with inputs := rest }) ∧
  (∀ (s u : State) (xs ys : List Input) (x : Input), paramsOk s.params = true → s.point.isSome = true →
    step { s with inputs := xs } = .next u → u.point.isSome = true →
    ((∃ cw, x = .command cw) ∨ (x = .take ∧ u.rspValid = false)) →
    step { s with inputs := xs ++ x :: ys } = step { s with inputs := xs ++ ys })

/-- The response take clears `rsp_valid` and nothing else; `rsp_status` and `rsp_data` keep their values until the next `Respond` (R21): no running
command changes them before it responds, and no event but reset changes them while none runs. -/
def Obligations.TakeClearsOnlyValid : Prop :=
  (∀ (s : State) (rest : List Input), paramsOk s.params = true → s.point = none → s.rspValid = true →
    s.inputs = .take :: rest → step s = .next { s with inputs := rest, rspValid := false }) ∧
  (∀ (i : Instr) (s u : State), noReset s.inputs → exec i s = .next u → u.point.isSome = true →
    u.rspStatus = s.rspStatus ∧ u.rspData = s.rspData) ∧
  (∀ (s u : State) (x : Input) (rest : List Input), s.point = none → s.inputs = x :: rest → x ≠ .reset →
    (∀ cw, x = .command cw → cmdReady s = false) → step s = .next u →
    u.rspStatus = s.rspStatus ∧ u.rspData = s.rspData)

/-- The values reset leaves (R157). -/
def Obligations.ResetValues : Prop :=
  State.reset.imgComm = 0x00#8 ∧ State.reset.imgStatus = 0x00#8 ∧ State.reset.imgMode = 0x00#8 ∧
    State.reset.imgControl = 0x00#8 ∧ State.reset.imgFilter = 0x00#8 ∧ State.reset.imgIo = 0x00#8 ∧
    State.reset.busy = false ∧ State.reset.curCw = 0#64 ∧ calStateCode State.reset.calState = 0#3 ∧
    State.reset.pollStart = 0#32 ∧ State.reset.pollLimit = 0#32 ∧ State.reset.cs = false ∧
    State.reset.rspValid = false ∧ statusCode State.reset.rspStatus = 0#3 ∧ State.reset.rspData = 0#32 ∧
    cmdReady State.reset = true ∧ csPin State.reset = State.reset.params.csActiveLow

/-- Reset may arrive at any time, while a command runs too (R157, R158): every state item takes the value of R157, no event is emitted, and the
block is ready for a command. That the model's own trace and the events still to come are kept is the model's choice (log 10, log 16). -/
def Obligations.ResetAtAnyTime : Prop :=
  ∀ (s : State) (rest : List Input), paramsOk s.params = true → s.inputs = .reset :: rest →
    ∃ u, step s = .next u ∧
      u.imgComm = 0x00#8 ∧ u.imgStatus = 0x00#8 ∧ u.imgMode = 0x00#8 ∧ u.imgControl = 0x00#8 ∧ u.imgFilter = 0x00#8 ∧
      u.imgIo = 0x00#8 ∧ u.busy = false ∧ u.curCw = 0#64 ∧ u.calState = .idle ∧ u.pollStart = 0#32 ∧
      u.pollLimit = 0#32 ∧ u.cs = false ∧ csPin u = s.params.csActiveLow ∧ u.rspValid = false ∧ u.rspStatus = .ok ∧
      u.rspData = 0#32 ∧ u.point = none ∧ cmdReady u = true ∧ u.trace = s.trace ∧ u.inputs = rest ∧
      u.params = s.params

/-- Reset in the middle of a command abandons it (R159): whatever the block did before, no response follows and every state item takes its
reset value. That the emitted events stay recorded is the model's choice (log 10). -/
def Obligations.ResetAbandonsRunningCommand : Prop :=
  ∀ (i : Instr) (s u : State) (xs ys : List Input), exec i { s with inputs := xs } = .next u → u.point.isSome = true →
    exec i { s with inputs := xs ++ .reset :: ys } =
      .next { State.reset with inputs := ys, trace := u.trace, params := s.params }

/-- A late answer is ignored (R159): the answer to a request, time sample or delay that a reset abandoned is dropped where no command runs, and where
a later command runs it makes no difference wherever it arrives, whatever that command awaits. An answer to nothing that arrives while no command
runs is dropped too, which is the model's choice (log 4). -/
def Obligations.LateAnswersAreIgnored : Prop :=
  (∀ (s : State) (a : Answer) (rest : List Input), paramsOk s.params = true → s.point = none → s.inputs = .late a :: rest →
    step s = .next { s with inputs := rest }) ∧
  (∀ (i : Instr) (s u : State) (a : Answer) (xs ys : List Input), exec i { s with inputs := xs } = .next u →
    u.point.isSome = true → exec i { s with inputs := xs ++ .late a :: ys } = exec i { s with inputs := xs ++ ys }) ∧
  (∀ (s u : State) (a : Answer) (xs ys : List Input), paramsOk s.params = true → s.point.isSome = true →
    step { s with inputs := xs } = .next u → u.point.isSome = true →
    step { s with inputs := xs ++ .late a :: ys } = step { s with inputs := xs ++ ys }) ∧
  (∀ (s : State) (x : Input) (rest : List Input), paramsOk s.params = true → s.point = none → s.inputs = x :: rest →
    ((∃ r, x = .bus r) ∨ (∃ t, x = .time t) ∨ x = .delayDone) → step s = .next { s with inputs := rest })

/-- A command whose answers run out hangs (R167): it stays at the event it awaits, with no response, for every later step.
That waiting is a step to the same state is the model's choice (log 15). -/
def Obligations.UnansweredCommandHangs : Prop :=
  ∀ (i : Instr) (s u : State), paramsOk s.params = true → exec i s = .next u → u.point.isSome = true →
    u.inputs = [] ∧ step u = .next u

/-- It makes no difference whether a command finds its answers ready or waits for them (R17, R171): a command that waits, and goes on when more
events arrive, ends where the command that finds them all ends. It justifies the model's choice of a step (log 1). -/
def Obligations.AnswersMayArriveInPieces : Prop :=
  ∀ (i : Instr) (s u : State) (xs ys : List Input), paramsOk s.params = true →
    exec i { s with inputs := xs } = .next u → u.point.isSome = true →
    step { u with inputs := ys } = exec i { s with inputs := xs ++ ys }

/-- Every step keeps the invariant of the control state (R17, R20, R22, R72, R91, R92, R116), in terms of the
model's representation of the point reached inside a command (log 1). -/
def Obligations.StepKeepsInvariant : Prop := ∀ s t : State, Inv s → step s = .next t → Inv t

/-- The state after reset meets the invariant. -/
def Obligations.ResetMeetsInvariant : Prop := Inv State.reset

/-- No step is fatal (R148), and none writes a parameter (R6); only tables that R81 refuses are refused, by the
model at the step (log 7). -/
def Obligations.EveryStepAnswers : Prop :=
  ∀ s : State, (paramsOk s.params = true → ∃ t, step s = .next t ∧ t.params = s.params) ∧
    (paramsOk s.params = false → step s = .refused .layoutTable)

/-! ### Raw access (spec/41_transaction.md) -/

/-- WRITE_REG (R97, R101, R102): every length, every answer. -/
def Obligations.WriteRegOutcome : Prop :=
  ∀ (s : State) (a : RegAddr) (n : BitVec 3) (arg : U32),
    (1 ≤ n.toNat → n.toNat ≤ 4 → ∀ l r rest, s.inputs = .bus (.ok l) :: .bus r :: rest →
      exec (.writeReg a n arg) s = .next
        { ended s (writeFrame s.params a ((List.range n.toNat).map fun i => arg.extractLsb' (8 * i) 8)) (statusOf r) 0#32 rest with
          imgComm := commByte s.params.commLayout a false true }) ∧
    (n = 0#3 → ∀ r rest, s.inputs = .bus r :: rest →
      exec (.writeReg a n arg) s = .next
        { ended s (addressFrame s.params a false) (statusOf r) 0#32 rest with
          imgComm := commByte s.params.commLayout a false true }) ∧
    (n.toNat ≤ 4 → ∀ rest, s.inputs = .bus .err :: rest →
      exec (.writeReg a n arg) s = .next
        { ended s (addressFrame s.params a false) .busError 0#32 rest with
          imgComm := commByte s.params.commLayout a false true }) ∧
    (5 ≤ n.toNat → exec (.writeReg a n arg) s = .next (illegalEnded s))

/-- READ_REG (R93, R98, R101, R102): every length, every answer. Received byte i stands at `rsp_data[8i+7:8i]`, 0 above; a one-byte read
refreshes the image of its address. -/
def Obligations.ReadRegOutcome : Prop :=
  ∀ (s : State) (a : RegAddr) (n : BitVec 3),
    (1 ≤ n.toNat → n.toNat ≤ 4 → ∀ l v rest, s.inputs = .bus (.ok l) :: .bus (.ok v) :: rest →
      exec (.readReg a n) s = .next
        { ended s (readFrame s.params a n.toNat) .ok (v &&& usedArgMask n) rest with
          imgComm := commByte s.params.commLayout a true true
          imgStatus := if n = 1#3 ∧ a = 0#4 then v.setWidth 8 else s.imgStatus
          imgMode := if n = 1#3 ∧ a = 1#4 then v.setWidth 8 else s.imgMode
          imgControl := if n = 1#3 ∧ a = 2#4 then v.setWidth 8 else s.imgControl
          imgFilter := if n = 1#3 ∧ a = 3#4 then v.setWidth 8 else s.imgFilter
          imgIo := if n = 1#3 ∧ a = 7#4 then v.setWidth 8 else s.imgIo }) ∧
    (1 ≤ n.toNat → n.toNat ≤ 4 → ∀ l rest, s.inputs = .bus (.ok l) :: .bus .err :: rest →
      exec (.readReg a n) s = .next
        { ended s (readFrame s.params a n.toNat) .busError 0#32 rest with
          imgComm := commByte s.params.commLayout a true true }) ∧
    (n = 0#3 → ∀ r rest, s.inputs = .bus r :: rest →
      exec (.readReg a n) s = .next
        { ended s (addressFrame s.params a true) (statusOf r) 0#32 rest with
          imgComm := commByte s.params.commLayout a true true }) ∧
    (n.toNat ≤ 4 → ∀ rest, s.inputs = .bus .err :: rest →
      exec (.readReg a n) s = .next
        { ended s (addressFrame s.params a true) .busError 0#32 rest with
          imgComm := commByte s.params.commLayout a true true }) ∧
    (5 ≤ n.toNat → exec (.readReg a n) s = .next (illegalEnded s))

/-- SELECT_W, SELECT_R, and WRITE_REG and READ_REG with LEN = 0 perform the address phase alone (R73, R101). -/
def Obligations.SelectOutcome : Prop :=
  ∀ (s : State) (a : RegAddr) (arg : U32) (r : BusAnswer) (rest : List Input), s.inputs = .bus r :: rest →
    (∀ i ∈ ([.selectW a, .writeReg a 0#3 arg] : List Instr),
      exec i s = .next
        { ended s (addressFrame s.params a false) (statusOf r) 0#32 rest with
          imgComm := commByte s.params.commLayout a false true }) ∧
    (∀ i ∈ ([.selectR a, .readReg a 0#3] : List Instr),
      exec i s = .next
        { ended s (addressFrame s.params a true) (statusOf r) 0#32 rest with
          imgComm := commByte s.params.commLayout a true true })

/-- READ_STATUS, READ_MODE, READ_CONTROL and READ_ID read one byte of addresses 0, 1, 2 and 15 (R73, R93, R100): the byte is returned and
refreshes the image of its address, if there is one; a failed request of either phase is BUS_ERROR and refreshes nothing. -/
def Obligations.NamedReadOutcome : Prop :=
  ∀ s : State,
    (∀ l v rest, s.inputs = .bus (.ok l) :: .bus (.ok v) :: rest →
      exec .readStatus s = .next
        { ended s (readFrame s.params 0#4 1) .ok (v &&& 0xFF#32) rest with
          imgComm := commByte s.params.commLayout 0#4 true true, imgStatus := v.setWidth 8 } ∧
      exec .readMode s = .next
        { ended s (readFrame s.params 1#4 1) .ok (v &&& 0xFF#32) rest with
          imgComm := commByte s.params.commLayout 1#4 true true, imgMode := v.setWidth 8 } ∧
      exec .readControl s = .next
        { ended s (readFrame s.params 2#4 1) .ok (v &&& 0xFF#32) rest with
          imgComm := commByte s.params.commLayout 2#4 true true, imgControl := v.setWidth 8 } ∧
      exec .readId s = .next
        { ended s (readFrame s.params 15#4 1) .ok (v &&& 0xFF#32) rest with
          imgComm := commByte s.params.commLayout 15#4 true true }) ∧
    (∀ x ∈ ([(.readStatus, 0#4), (.readMode, 1#4), (.readControl, 2#4), (.readId, 15#4)] : List (Instr × RegAddr)),
      (∀ l rest, s.inputs = .bus (.ok l) :: .bus .err :: rest →
        exec x.1 s = .next
          { ended s (readFrame s.params x.2 1) .busError 0#32 rest with
            imgComm := commByte s.params.commLayout x.2 true true }) ∧
      (∀ rest, s.inputs = .bus .err :: rest →
        exec x.1 s = .next
          { ended s (addressFrame s.params x.2 true) .busError 0#32 rest with
            imgComm := commByte s.params.commLayout x.2 true true }))

/-- An illegal command word answers ILLEGAL and does nothing else, whatever its other bits are (R139, R140); the seven rows of such words are
instructions that do the same. -/
def Obligations.IllegalOutcome : Prop :=
  ∀ s : State,
    (∀ cw : CommandWord, cw.toNat % 16 = 0 ∨ 11 ≤ cw.toNat % 16 ∨
        ((cw.toNat % 16 = 2 ∨ cw.toNat % 16 = 3) ∧ 5 ≤ cw.toNat / 256 % 8) →
      exec (decode cw) s = .next (illegalEnded s)) ∧
    (∀ i : Instr, isIllegalRow i = true → exec i s = .next (illegalEnded s))

/-! ### Configuration (spec/42_configuration.md) -/

/-- The four configuration commands (R103 to R108): the image holds the built byte already while the first request is unanswered, and keeps it when a
request fails; the byte is written to the image's address in one frame, whose second BusOut is left out when the address phase fails; the status is the transaction's. -/
def Obligations.ConfigurationOutcome : Prop :=
  ∀ s : State,
    (s.inputs = [] →
      let waiting (a : RegAddr) (v : Byte) (u : State) : State :=
        { u with
          imgComm := commByte s.params.commLayout a false false
          cs := true
          point := some (.addrPhase ⟨a, .write, 1, [v]⟩ .config)
          trace := s.trace ++ [.setCS true, addressRequest s.params a false] }
      (∀ md oscpd chcon refsel negbuf chop,
        let v := buildMode s.params.modeLayout md oscpd chcon refsel negbuf chop
        exec (.cfgMode md oscpd chcon refsel negbuf chop) s = .next (waiting 1#4 v { s with imgMode := v })) ∧
      (∀ ch rn pol,
        let v := buildControl s.params.controlLayout ch rn pol
        exec (.cfgChannel ch rn pol) s = .next (waiting 2#4 v { s with imgControl := v })) ∧
      (∀ sf, exec (.cfgFilter sf) s = .next (waiting 3#4 sf { s with imgFilter := sf })) ∧
      (∀ p1dir p2dir,
        let v := buildIo s.params.ioLayout p1dir p2dir
        exec (.cfgIo p1dir p2dir) s = .next (waiting 7#4 v { s with imgIo := v }))) ∧
    (∀ l r rest, s.inputs = .bus (.ok l) :: .bus r :: rest →
      (∀ md oscpd chcon refsel negbuf chop,
        let v := buildMode s.params.modeLayout md oscpd chcon refsel negbuf chop
        exec (.cfgMode md oscpd chcon refsel negbuf chop) s = .next
          { ended s (writeFrame s.params 1#4 [v]) (statusOf r) 0#32 rest with
            imgMode := v, imgComm := commByte s.params.commLayout 1#4 false true }) ∧
      (∀ ch rn pol,
        let v := buildControl s.params.controlLayout ch rn pol
        exec (.cfgChannel ch rn pol) s = .next
          { ended s (writeFrame s.params 2#4 [v]) (statusOf r) 0#32 rest with
            imgControl := v, imgComm := commByte s.params.commLayout 2#4 false true }) ∧
      (∀ sf,
        exec (.cfgFilter sf) s = .next
          { ended s (writeFrame s.params 3#4 [sf]) (statusOf r) 0#32 rest with
            imgFilter := sf, imgComm := commByte s.params.commLayout 3#4 false true }) ∧
      (∀ p1dir p2dir,
        let v := buildIo s.params.ioLayout p1dir p2dir
        exec (.cfgIo p1dir p2dir) s = .next
          { ended s (writeFrame s.params 7#4 [v]) (statusOf r) 0#32 rest with
            imgIo := v, imgComm := commByte s.params.commLayout 7#4 false true })) ∧
    (∀ rest, s.inputs = .bus .err :: rest →
      (∀ md oscpd chcon refsel negbuf chop,
        exec (.cfgMode md oscpd chcon refsel negbuf chop) s = .next
          { ended s (addressFrame s.params 1#4 false) .busError 0#32 rest with
            imgMode := buildMode s.params.modeLayout md oscpd chcon refsel negbuf chop
            imgComm := commByte s.params.commLayout 1#4 false true }) ∧
      (∀ ch rn pol,
        exec (.cfgChannel ch rn pol) s = .next
          { ended s (addressFrame s.params 2#4 false) .busError 0#32 rest with
            imgControl := buildControl s.params.controlLayout ch rn pol
            imgComm := commByte s.params.commLayout 2#4 false true }) ∧
      (∀ sf,
        exec (.cfgFilter sf) s = .next
          { ended s (addressFrame s.params 3#4 false) .busError 0#32 rest with
            imgFilter := sf, imgComm := commByte s.params.commLayout 3#4 false true }) ∧
      (∀ p1dir p2dir,
        exec (.cfgIo p1dir p2dir) s = .next
          { ended s (addressFrame s.params 7#4 false) .busError 0#32 rest with
            imgIo := buildIo s.params.ioLayout p1dir p2dir, imgComm := commByte s.params.commLayout 7#4 false true }))

/-- INIT (R111, R112): with every request answered ok, four writes, to addresses 7, 3, 2, 1 in that order, with the parameters' values and the
mode code 2; else it stops at the first failing write, in the address phase or in the data phase: the images of later writes stay 0x00 and no later
write is attempted. -/
def Obligations.InitOutcome : Prop :=
  ∀ s : State,
    let p := s.params
    let io := buildIo p.ioLayout p.initP1dir p.initP2dir
    let control := buildControl p.controlLayout p.initCh p.initRn p.initPol
    let mode := buildMode p.modeLayout 2#3 p.initOscpd p.initChcon p.initRefsel p.initNegbuf p.initChop
    let writes : List (RegAddr × Byte) := [(7#4, io), (3#4, p.initFilter), (2#4, control), (1#4, mode)]
    (∀ (oks : List U32) (rest : List Input), oks.length = 8 → s.inputs = oks.map (fun l => .bus (.ok l)) ++ rest →
      exec .init s = .next
        { ended s (writes.flatMap fun w => writeFrame p w.1 [w.2]) .ok 0#32 rest with
          imgComm := commByte p.commLayout 1#4 false true
          imgStatus := 0x00#8
          imgIo := io
          imgFilter := p.initFilter
          imgControl := control
          imgMode := mode }) ∧
    (∀ (oks : List U32) (rest : List Input), oks.length < 8 →
      s.inputs = oks.map (fun l => .bus (.ok l)) ++ .bus .err :: rest →
      let k := oks.length / 2
      let failing := writes.getD k (0#4, 0#8)
      exec .init s = .next
        { ended s ((writes.take k).flatMap (fun w => writeFrame p w.1 [w.2]) ++
            (if oks.length % 2 = 0 then addressFrame p failing.1 false else writeFrame p failing.1 [failing.2]))
            .busError 0#32 rest with
          imgComm := commByte p.commLayout failing.1 false true
          imgStatus := 0x00#8
          imgIo := io
          imgFilter := if 1 ≤ k then p.initFilter else 0x00#8
          imgControl := if 2 ≤ k then control else 0x00#8
          imgMode := if 3 ≤ k then mode else 0x00#8 })

/-! ### Acquisition (spec/44_acquisition.md) -/

/-- READ_CONV (R132, R133): the first byte received is the high one; no image but `img.COMM` changes. -/
def Obligations.ReadConvOutcome : Prop :=
  ∀ s : State,
    (∀ l v rest, s.inputs = .bus (.ok l) :: .bus (.ok v) :: rest →
      exec .readConv s = .next
        { ended s (readFrame s.params 4#4 2) .ok (BitVec.ofNat 32 (v.toNat % 256 * 256 + v.toNat / 256 % 256)) rest with
          imgComm := commByte s.params.commLayout 4#4 true true }) ∧
    (∀ l rest, s.inputs = .bus (.ok l) :: .bus .err :: rest →
      exec .readConv s = .next
        { ended s (readFrame s.params 4#4 2) .busError 0#32 rest with
          imgComm := commByte s.params.commLayout 4#4 true true }) ∧
    (∀ rest, s.inputs = .bus .err :: rest →
      exec .readConv s = .next
        { ended s (addressFrame s.params 4#4 true) .busError 0#32 rest with
          imgComm := commByte s.params.commLayout 4#4 true true })

/-- PROBE (R134): OK or NOT_PRESENT by the high nibble alone, the whole byte returned either way; BUS_ERROR on a failed request. -/
def Obligations.ProbeOutcome : Prop :=
  ∀ s : State,
    (∀ l v rest, s.inputs = .bus (.ok l) :: .bus (.ok v) :: rest →
      exec .probe s = .next
        { ended s (readFrame s.params 15#4 1)
            (if v.toNat / 16 % 16 = s.params.deviceId.toNat then .ok else .notPresent) (v &&& 0xFF#32) rest with
          imgComm := commByte s.params.commLayout 15#4 true true }) ∧
    (∀ l rest, s.inputs = .bus (.ok l) :: .bus .err :: rest →
      exec .probe s = .next
        { ended s (readFrame s.params 15#4 1) .busError 0#32 rest with
          imgComm := commByte s.params.commLayout 15#4 true true }) ∧
    (∀ rest, s.inputs = .bus .err :: rest →
      exec .probe s = .next
        { ended s (addressFrame s.params 15#4 true) .busError 0#32 rest with
          imgComm := commByte s.params.commLayout 15#4 true true })

/-! ### Calibration (spec/43_calibration.md) -/

/-- CALIBRATE succeeds (R114 to R119, R123, R124): in each phase any number of reads that are not idle and do not expire, then an idle one. The
full-scale request keeps the flags of the idle read. -/
def Obligations.CalibrateSucceeds : Prop :=
  ∀ (s : State) (timeout l1 l2 t1 a1 v1 l3 l4 t2 a2 v2 : U32) (zero full : List PollRound) (rest : List Input),
    let p := s.params
    let limit := effectiveLimit p timeout
    let request4 := withMd p.modeLayout s.imgMode 4#3
    let request5 := withMd p.modeLayout (v1.setWidth 8) 5#3
    s.inputs = phaseInputs p l1 l2 t1 zero ++ (readAnswers a1 v1 ++ (phaseInputs p l3 l4 t2 full ++
      (readAnswers a2 v2 ++ rest))) →
    roundsGoOn p t1 limit zero → readsIdle p v1 → roundsGoOn p t2 limit full → readsIdle p v2 →
    exec (.calibrate timeout) s = .next
      { ended s (phaseEvents p request4 zero ++ readFrame p 1#4 1 ++ phaseEvents p request5 full ++ readFrame p 1#4 1) .ok 0#32
          rest with
        imgComm := pollComm p, imgMode := v2.setWidth 8, calState := .done, pollStart := t2, pollLimit := limit }

/-- The number of mode reads and of time samples of a successful CALIBRATE (R129): k + 1 of each per phase. -/
def Obligations.CalibrateReadCount : Prop :=
  ∀ (s : State) (timeout l1 l2 t1 a1 v1 l3 l4 t2 a2 v2 : U32) (zero full : List PollRound) (rest : List Input),
    s.inputs = phaseInputs s.params l1 l2 t1 zero ++ (readAnswers a1 v1 ++ (phaseInputs s.params l3 l4 t2 full ++
      (readAnswers a2 v2 ++ rest))) →
    roundsGoOn s.params t1 (effectiveLimit s.params timeout) zero → readsIdle s.params v1 →
    roundsGoOn s.params t2 (effectiveLimit s.params timeout) full → readsIdle s.params v2 →
    ∃ u ev, exec (.calibrate timeout) s = .next u ∧ u.trace = s.trace ++ ev ∧
      ev.countP isBusIn = (zero.length + 1) + (full.length + 1) ∧
      ev.countP isNow = (zero.length + 1) + (full.length + 1)

/-- CALIBRATE times out in the zero-scale phase at the first expired sample after a read that is not idle (R120, R125). -/
def Obligations.CalibrateTimesOutInZeroPhase : Prop :=
  ∀ (s : State) (timeout l1 l2 t1 a1 v1 t : U32) (zero : List PollRound) (rest : List Input),
    let p := s.params
    let limit := effectiveLimit p timeout
    s.inputs = phaseInputs p l1 l2 t1 zero ++ (readAnswers a1 v1 ++ .time t :: rest) →
    roundsGoOn p t1 limit zero → notIdle p v1 → expiredAt t1 limit t →
    exec (.calibrate timeout) s = .next
      { ended s (phaseEvents p (withMd p.modeLayout s.imgMode 4#3) zero ++ readFrame p 1#4 1 ++ [.now]) .timeout 0#32 rest with
        imgComm := pollComm p, imgMode := v1.setWidth 8, calState := .timedOut, pollStart := t1, pollLimit := limit }

/-- CALIBRATE times out in the full-scale phase (R117, R120, R125): the phase has its own start sample. -/
def Obligations.CalibrateTimesOutInFullPhase : Prop :=
  ∀ (s : State) (timeout l1 l2 t1 a1 v1 l3 l4 t2 a2 v2 t : U32) (zero full : List PollRound) (rest : List Input),
    let p := s.params
    let limit := effectiveLimit p timeout
    s.inputs = phaseInputs p l1 l2 t1 zero ++ (readAnswers a1 v1 ++ (phaseInputs p l3 l4 t2 full ++
      (readAnswers a2 v2 ++ .time t :: rest))) →
    roundsGoOn p t1 limit zero → readsIdle p v1 → roundsGoOn p t2 limit full → notIdle p v2 → expiredAt t2 limit t →
    exec (.calibrate timeout) s = .next
      { ended s (phaseEvents p (withMd p.modeLayout s.imgMode 4#3) zero ++ readFrame p 1#4 1 ++
          phaseEvents p (withMd p.modeLayout (v1.setWidth 8) 5#3) full ++ readFrame p 1#4 1 ++ [.now]) .timeout 0#32 rest with
        imgComm := pollComm p, imgMode := v2.setWidth 8, calState := .timedOut, pollStart := t2, pollLimit := limit }

/-- CALIBRATE stops at a bus error (R126, R127): in the zero-scale request's address phase or data phase, or in a poll read's address phase or
data phase after any number of iterations. The mode image keeps the request or the last byte read. -/
def Obligations.CalibrateStopsAtBusError : Prop :=
  ∀ (s : State) (timeout l1 l2 t1 a1 : U32) (zero : List PollRound) (rest : List Input),
    let p := s.params
    let limit := effectiveLimit p timeout
    let request := withMd p.modeLayout s.imgMode 4#3
    (s.inputs = .bus .err :: rest →
      exec (.calibrate timeout) s = .next
        { ended s (addressFrame p 1#4 false) .busError 0#32 rest with
          imgComm := requestComm p, imgMode := request, calState := .busFailed, pollLimit := limit }) ∧
    (s.inputs = .bus (.ok l1) :: .bus .err :: rest →
      exec (.calibrate timeout) s = .next
        { ended s (writeFrame p 1#4 [request]) .busError 0#32 rest with
          imgComm := requestComm p, imgMode := request, calState := .busFailed, pollLimit := limit }) ∧
    (s.inputs = phaseInputs p l1 l2 t1 zero ++ .bus .err :: rest → roundsGoOn p t1 limit zero →
      exec (.calibrate timeout) s = .next
        { ended s (phaseEvents p request zero ++ addressFrame p 1#4 true) .busError 0#32 rest with
          imgComm := pollComm p, imgMode := modeAfterRounds request zero, calState := .busFailed, pollStart := t1,
          pollLimit := limit }) ∧
    (s.inputs = phaseInputs p l1 l2 t1 zero ++ .bus (.ok a1) :: .bus .err :: rest → roundsGoOn p t1 limit zero →
      exec (.calibrate timeout) s = .next
        { ended s (phaseEvents p request zero ++ readFrame p 1#4 1) .busError 0#32 rest with
          imgComm := pollComm p, imgMode := modeAfterRounds request zero, calState := .busFailed, pollStart := t1,
          pollLimit := limit })

/-- CALIBRATE stops at a bus error in the full-scale phase too (R123, R126, R127): in its request's address phase or data phase, or in a poll
read's address phase or data phase after any number of iterations. -/
def Obligations.CalibrateStopsAtBusErrorInFullPhase : Prop :=
  ∀ (s : State) (timeout l1 l2 t1 a1 v1 l3 l4 t2 a2 : U32) (zero full : List PollRound) (rest tail : List Input),
    let p := s.params
    let limit := effectiveLimit p timeout
    let before := phaseEvents p (withMd p.modeLayout s.imgMode 4#3) zero ++ readFrame p 1#4 1
    let request := withMd p.modeLayout (v1.setWidth 8) 5#3
    s.inputs = phaseInputs p l1 l2 t1 zero ++ (readAnswers a1 v1 ++ tail) → roundsGoOn p t1 limit zero → readsIdle p v1 →
    (tail = .bus .err :: rest →
      exec (.calibrate timeout) s = .next
        { ended s (before ++ addressFrame p 1#4 false) .busError 0#32 rest with
          imgComm := requestComm p, imgMode := request, calState := .busFailed, pollStart := t1, pollLimit := limit }) ∧
    (tail = .bus (.ok l3) :: .bus .err :: rest →
      exec (.calibrate timeout) s = .next
        { ended s (before ++ writeFrame p 1#4 [request]) .busError 0#32 rest with
          imgComm := requestComm p, imgMode := request, calState := .busFailed, pollStart := t1, pollLimit := limit }) ∧
    (tail = phaseInputs p l3 l4 t2 full ++ .bus .err :: rest → roundsGoOn p t2 limit full →
      exec (.calibrate timeout) s = .next
        { ended s (before ++ phaseEvents p request full ++ addressFrame p 1#4 true) .busError 0#32 rest with
          imgComm := pollComm p, imgMode := modeAfterRounds request full, calState := .busFailed, pollStart := t2,
          pollLimit := limit }) ∧
    (tail = phaseInputs p l3 l4 t2 full ++ .bus (.ok a2) :: .bus .err :: rest → roundsGoOn p t2 limit full →
      exec (.calibrate timeout) s = .next
        { ended s (before ++ phaseEvents p request full ++ readFrame p 1#4 1) .busError 0#32 rest with
          imgComm := pollComm p, imgMode := modeAfterRounds request full, calState := .busFailed, pollStart := t2,
          pollLimit := limit })

/-- With a zero limit each phase reads exactly once (R130): idle goes on, from the zero-scale phase to the full-scale request and from the full-scale
phase to Done, with no time sample after it; anything else times out, whatever the clock says. The events are those of a phase without a
further iteration. -/
def Obligations.ZeroLimitReadsOnce : Prop :=
  ∀ (s : State) (timeout l1 l2 t1 a1 v1 l3 l4 t2 a2 v2 t : U32) (rest : List Input),
    timeout = 0#32 ∨ s.params.calHardLimitMs = 0#32 →
    let p := s.params
    let zero := phaseEvents p (withMd p.modeLayout s.imgMode 4#3) [] ++ readFrame p 1#4 1
    let full := phaseEvents p (withMd p.modeLayout (v1.setWidth 8) 5#3) [] ++ readFrame p 1#4 1
    (s.inputs = phaseInputs p l1 l2 t1 [] ++ (readAnswers a1 v1 ++ .time t :: rest) → notIdle p v1 →
      exec (.calibrate timeout) s = .next
        { ended s (zero ++ [.now]) .timeout 0#32 rest with
          imgComm := pollComm p, imgMode := v1.setWidth 8, calState := .timedOut, pollStart := t1, pollLimit := 0#32 }) ∧
    (s.inputs = phaseInputs p l1 l2 t1 [] ++ (readAnswers a1 v1 ++ (phaseInputs p l3 l4 t2 [] ++
        (readAnswers a2 v2 ++ .time t :: rest))) → readsIdle p v1 → notIdle p v2 →
      exec (.calibrate timeout) s = .next
        { ended s (zero ++ full ++ [.now]) .timeout 0#32 rest with
          imgComm := pollComm p, imgMode := v2.setWidth 8, calState := .timedOut, pollStart := t2, pollLimit := 0#32 }) ∧
    (s.inputs = phaseInputs p l1 l2 t1 [] ++ (readAnswers a1 v1 ++ (phaseInputs p l3 l4 t2 [] ++
        (readAnswers a2 v2 ++ rest))) → readsIdle p v1 → readsIdle p v2 →
      exec (.calibrate timeout) s = .next
        { ended s (zero ++ full) .ok 0#32 rest with
          imgComm := pollComm p, imgMode := v2.setWidth 8, calState := .done, pollStart := t2, pollLimit := 0#32 }) ∧
    zero.countP isBusIn = 1 ∧ full.countP isBusIn = 1

/-- The effective limit's corners (R116, R130). -/
def Obligations.PollLimitCorners : Prop :=
  ∀ timeout hard : U32,
    (minU32 timeout hard).toNat = min timeout.toNat hard.toNat ∧ minU32 0#32 hard = 0#32 ∧ minU32 timeout 0#32 = 0#32 ∧
      minU32 0xFFFFFFFF#32 hard = hard ∧ (timeout.toNat < hard.toNat → minU32 timeout hard = timeout)

/-- The poll-timer comparator (R120, R131): modular elapsed time, expiry at ≥, true across one wrap of the clock. -/
def Obligations.PollComparator : Prop :=
  (∀ start limit t : U32, pollExpired start limit t = true ↔ expiredAt start limit t) ∧
    elapsed 0xFFFFFFF0#32 0x00000010#32 = 0x20#32 ∧ ∀ t : U32, elapsed t t = 0#32

/-- The idle sense under the default table (R119; its position of MD is general knowledge, log 12): only the mode code is compared. -/
def Obligations.IdleSenseComparesModeCode : Prop :=
  ∀ b : Byte, idleSense ModeLayout.default b = true ↔ b &&& 0x07#8 = 0x01#8

/-- The poll is bounded (R128): on a bus that answers everything and a clock that advances one millisecond per round, CALIBRATE ends, with a
response, within 2 · (poll_limit + 2) rounds, whatever the chip answers. The fixed rounds hold events that nothing asked for: the end of a delay after
each entry sample, after each idle read and wherever POLL_DELAY_MS = 0, and a time sample after each idle read. That these are dropped is the
model's choice, which R128 does not state (log 4); CalibrateEndsWhenSamplesExpire bounds the poll without them. -/
def Obligations.CalibrateEndsOnAdvancingClock : Prop :=
  ∀ (s : State) (timeout t0 : U32) (answers : List (U32 × U32)),
    2 * ((effectiveLimit s.params timeout).toNat + 2) ≤ answers.length → s.inputs = clockedInputs t0 answers →
    ∃ u, exec (.calibrate timeout) s = .next u ∧ u.point = none ∧ u.rspValid = true ∧
      (u.rspStatus = .ok ∨ u.rspStatus = .timeout)

/-- CALIBRATE's final states (R22, R124 to R126, R138): whatever the environment does short of a reset, an ended CALIBRATE has one of three
outcomes, each with its terminal state, and data 0; the poll limit is the effective limit. -/
def Obligations.CalibrateEndsConsistently : Prop :=
  ∀ (s u : State) (timeout : U32), noReset s.inputs → exec (.calibrate timeout) s = .next u →
    u.pollLimit = effectiveLimit s.params timeout ∧
    (u.point = none → u.rspData = 0#32 ∧
      ((u.rspStatus = .ok ∧ u.calState = .done) ∨ (u.rspStatus = .timeout ∧ u.calState = .timedOut) ∨
        (u.rspStatus = .busError ∧ u.calState = .busFailed)))

/-! ### Every command (spec/20_memory.md, spec/41_transaction.md, spec/60_exceptions.md) -/

/-- Each command reports only a status of its own (R138). -/
def Obligations.EachCommandReportsAnAllowedStatus : Prop :=
  ∀ (i : Instr) (s u : State), i.wf = true → noReset s.inputs → exec i s = .next u → u.point = none →
    u.rspStatus ∈ allowedStatuses i

/-- Exactly one response ends a command, as its last event, and none comes before (R17, R20). -/
def Obligations.ExactlyOneResponse : Prop :=
  ∀ (i : Instr) (s u : State), noReset s.inputs → exec i s = .next u →
    ∃ ev, ev.countP isRespond = 0 ∧
      if u.point = none then
        u.trace = s.trace ++ ev ++ [.respond u.rspStatus u.rspData] ∧ u.rspValid = true ∧ u.busy = false
      else u.trace = s.trace ++ ev

/-- Chip-select is asserted as often as deasserted, on every path (R91). -/
def Obligations.ChipSelectIsBalanced : Prop :=
  ∀ (i : Instr) (s u : State), noReset s.inputs → s.cs = false → exec i s = .next u →
    ∃ ev, u.trace = s.trace ++ ev ∧ csCount true ev = csCount false ev + u.cs.toNat ∧ (u.point = none → u.cs = false)

/-- Every frame of every command is an assertion, one BusOut of a command byte with WEN = 0, at most one data-phase request of the command byte's
direction and the deassertion, and no bus request stands outside a frame (R47, R70, R96). -/
def Obligations.FramesAreDisciplined : Prop :=
  ∀ (i : Instr) (s u : State), noReset s.inputs → s.cs = false → exec i s = .next u →
    ∃ ev f, u.trace = s.trace ++ ev ∧ frameRun s.params .outside ev = some f ∧ (u.cs = false ↔ f = .outside) ∧
      (u.point = none → f = .outside)

/-- Only CALIBRATE writes `cal_state`, `poll_start` and `poll_limit` (R36), and no command writes `cur_cw` (R146). -/
def Obligations.OnlyCalibrateMovesCalibrationState : Prop :=
  ∀ (i : Instr) (s u : State), noReset s.inputs → exec i s = .next u →
    u.curCw = s.curCw ∧
      ((∀ timeout, i ≠ .calibrate timeout) →
        u.calState = s.calState ∧ u.pollStart = s.pollStart ∧ u.pollLimit = s.pollLimit)

/-- A configuration command and INIT never read the chip (R110): no read request on the bus, whatever the answers. -/
def Obligations.ConfigurationNeverReads : Prop :=
  ∀ (i : Instr) (s u : State), onlyWrites i = true → exec i s = .next u →
    ∃ ev, u.trace = s.trace ++ ev ∧ ev.countP isBusIn = 0

/-- A raw write, a read of two or more bytes, a read of an address without an image, READ_CONV, PROBE and an illegal word change no image but
`img.COMM`, whatever the answers (R93, R97, R132, R134, R139). -/
def Obligations.OtherCommandsLeaveImages : Prop :=
  ∀ (i : Instr) (s u : State), leavesImages i = true → noReset s.inputs → exec i s = .next u →
    u.imgStatus = s.imgStatus ∧ u.imgMode = s.imgMode ∧ u.imgControl = s.imgControl ∧ u.imgFilter = s.imgFilter ∧
      u.imgIo = s.imgIo

/-- The output codes (R22, R137): the five statuses are 0 to 4, and the eight calibration states 0 to 7. -/
def Obligations.OutputCodes : Prop :=
  ([RspStatus.ok, .busError, .timeout, .notPresent, .illegal].map fun x => (statusCode x).toNat) = [0, 1, 2, 3, 4] ∧
    ([CalState.idle, .requestZeroCal, .awaitZeroCal, .requestFullCal, .awaitFullCal, .done, .timedOut, .busFailed].map
      fun x => (calStateCode x).toNat) = [0, 1, 2, 3, 4, 5, 6, 7] ∧
    ∀ x, (statusCode x).toNat < 5

/-- CALIBRATE ends (R128), however the clock runs: if every request is answered, as anything at all, and after every time sample some later one shows
`elapsed ≥ poll_limit` since it, then CALIBRATE responds after finitely many answers. If that later sample is always among the next n, it responds
within 8n + 6 answers: a request write of two and an entry sample in each phase, and n iterations of four in each phase at most. No law of R121 is
needed (log 5). -/
def Obligations.CalibrateEndsWhenSamplesExpire : Prop :=
  ∀ (s : State) (timeout : U32) (d : Draws), paramsOk s.params = true → s.inputs = [] →
    let limit := effectiveLimit s.params timeout
    let ends (k : Nat) : Prop :=
      ∃ u v, exec (.calibrate timeout) s = .next u ∧ served d k 0 0 u = some v ∧ v.point = none ∧ v.rspValid = true ∧
        (v.rspStatus = .ok ∨ v.rspStatus = .timeout ∨ v.rspStatus = .busError)
    ((∀ m, ∃ j, m < j ∧ expiredAt (d.time m) limit (d.time j)) → ∃ k, ends k) ∧
    ∀ n, (∀ m, ∃ j, m < j ∧ j ≤ m + n ∧ expiredAt (d.time m) limit (d.time j)) → ends (8 * n + 6)
end

