-- ==== Sys2Proof/Laws/Decode.lean ====
section
/-! SUPPORT. The fields of an encoded word (spec/30_encoding.md R57): each field read back is the field written. -/

namespace Sys2Proof

@[simp] theorem opField_encodeFields (op : BitVec 4) (a : RegAddr) (n : BitVec 3) (arg : U32) :
    opField (encodeFields op a n arg) = op := by
  unfold opField encodeFields
  ext i hi
  have h8 : i < 8 := by omega
  have h16 : i < 16 := by omega
  simp [hi, h8, h16]
  omega

@[simp] theorem addrField_encodeFields (op : BitVec 4) (a : RegAddr) (n : BitVec 3) (arg : U32) :
    addrField (encodeFields op a n arg) = a := by
  unfold addrField encodeFields
  ext i hi
  have h8 : 4 + i < 8 := by omega
  have h16 : 4 + i < 16 := by omega
  have h64 : 4 + i < 64 := by omega
  simp [hi, h8, h16, h64]

@[simp] theorem lenField_encodeFields (op : BitVec 4) (a : RegAddr) (n : BitVec 3) (arg : U32) :
    lenField (encodeFields op a n arg) = n := by
  unfold lenField encodeFields
  ext i hi
  have h16 : 8 + i < 16 := by omega
  have h64 : 8 + i < 64 := by omega
  have ha : a.getLsbD (8 + i - 4) = false := BitVec.getLsbD_of_ge _ _ (by omega)
  have ho : op.getLsbD (8 + i) = false := BitVec.getLsbD_of_ge _ _ (by omega)
  simp [hi, h16, h64, ha, ho]

@[simp] theorem argField_encodeFields (op : BitVec 4) (a : RegAddr) (n : BitVec 3) (arg : U32) :
    argField (encodeFields op a n arg) = arg := by
  unfold argField encodeFields
  ext i hi
  have h64 : 16 + i < 64 := by omega
  have hn : n.getLsbD (16 + i - 8) = false := BitVec.getLsbD_of_ge _ _ (by omega)
  have ha : a.getLsbD (16 + i - 4) = false := BitVec.getLsbD_of_ge _ _ (by omega)
  have ho : op.getLsbD (16 + i) = false := BitVec.getLsbD_of_ge _ _ (by omega)
  simp [hi, h64, hn, ha, ho]

/-- A bit of an ARG that one flag sets. -/
@[simp] theorem getLsbD_argBit (i j : Nat) (b : Bool) (hi : i < 32) : (argBit i b).getLsbD j = (b && decide (j = i)) := by
  unfold argBit
  rw [BitVec.getLsbD_shiftLeft, BitVec.getLsbD_setWidth, BitVec.getLsbD_ofBool]
  by_cases hj : j = i
  · subst hj; simp [hi]
  · by_cases hlt : j < i
    · simp [hlt, hj]
    · have : j - i ≠ 0 := by omega
      simp [hj, this]

end Sys2Proof
end

