-- ==== Sys2Proof/Laws/Encoder.lean ====
section
/-! SUPPORT. The register-image encoder bit by bit (spec/40_register_image.md R76 to R79). -/

namespace Sys2Proof.Machine

/-- A bit of a field's value mask. -/
theorem getLsbD_fieldOnes (f : Field) (i : Nat) (hi : i < 8) : (fieldOnes f).getLsbD i = decide (i < fieldWidth f) := by
  unfold fieldOnes
  rw [BitVec.getLsbD_ofNat]
  simp [hi, Nat.testBit_two_pow_sub_one]

/-- A bit of a field's mask: set exactly inside the field. -/
theorem getLsbD_fieldMask (f : Field) (i : Nat) (hi : i < 8) (hf : f.lo ≤ f.hi) :
    (fieldMask f).getLsbD i = decide (f.lo ≤ i ∧ i ≤ f.hi) := by
  unfold fieldMask
  rw [BitVec.getLsbD_shiftLeft]
  by_cases h : f.lo ≤ i
  · rw [getLsbD_fieldOnes f (i - f.lo) (by omega)]
    have hw : (i - f.lo < fieldWidth f) ↔ i ≤ f.hi := by unfold fieldWidth; omega
    simp [hi, h, hw]
  · have h' : i < f.lo := by omega
    simp [h, h']

end Sys2Proof.Machine
end

