-- ==== Sys2Proof/Laws/State.lean ====
section
/-! SUPPORT. One lemma per field per state update, so that no proof unfolds a record update. -/

namespace Sys2Proof.Machine

/-! ### emit -/

@[simp] theorem emit_imgComm (e : PortEvent) (s : State) : (emit e s).imgComm = s.imgComm := rfl
@[simp] theorem emit_imgStatus (e : PortEvent) (s : State) : (emit e s).imgStatus = s.imgStatus := rfl
@[simp] theorem emit_imgMode (e : PortEvent) (s : State) : (emit e s).imgMode = s.imgMode := rfl
@[simp] theorem emit_imgControl (e : PortEvent) (s : State) : (emit e s).imgControl = s.imgControl := rfl
@[simp] theorem emit_imgFilter (e : PortEvent) (s : State) : (emit e s).imgFilter = s.imgFilter := rfl
@[simp] theorem emit_imgIo (e : PortEvent) (s : State) : (emit e s).imgIo = s.imgIo := rfl
@[simp] theorem emit_busy (e : PortEvent) (s : State) : (emit e s).busy = s.busy := rfl
@[simp] theorem emit_curCw (e : PortEvent) (s : State) : (emit e s).curCw = s.curCw := rfl
@[simp] theorem emit_calState (e : PortEvent) (s : State) : (emit e s).calState = s.calState := rfl
@[simp] theorem emit_pollStart (e : PortEvent) (s : State) : (emit e s).pollStart = s.pollStart := rfl
@[simp] theorem emit_pollLimit (e : PortEvent) (s : State) : (emit e s).pollLimit = s.pollLimit := rfl
@[simp] theorem emit_cs (e : PortEvent) (s : State) : (emit e s).cs = s.cs := rfl
@[simp] theorem emit_rspValid (e : PortEvent) (s : State) : (emit e s).rspValid = s.rspValid := rfl
@[simp] theorem emit_rspStatus (e : PortEvent) (s : State) : (emit e s).rspStatus = s.rspStatus := rfl
@[simp] theorem emit_rspData (e : PortEvent) (s : State) : (emit e s).rspData = s.rspData := rfl
@[simp] theorem emit_point (e : PortEvent) (s : State) : (emit e s).point = s.point := rfl
@[simp] theorem emit_inputs (e : PortEvent) (s : State) : (emit e s).inputs = s.inputs := rfl
@[simp] theorem emit_trace (e : PortEvent) (s : State) : (emit e s).trace = s.trace ++ [e] := rfl
@[simp] theorem emit_params (e : PortEvent) (s : State) : (emit e s).params = s.params := rfl

/-! ### setCS -/

@[simp] theorem setCS_imgComm (b : Bool) (s : State) : (setCS b s).imgComm = s.imgComm := rfl
@[simp] theorem setCS_imgStatus (b : Bool) (s : State) : (setCS b s).imgStatus = s.imgStatus := rfl
@[simp] theorem setCS_imgMode (b : Bool) (s : State) : (setCS b s).imgMode = s.imgMode := rfl
@[simp] theorem setCS_imgControl (b : Bool) (s : State) : (setCS b s).imgControl = s.imgControl := rfl
@[simp] theorem setCS_imgFilter (b : Bool) (s : State) : (setCS b s).imgFilter = s.imgFilter := rfl
@[simp] theorem setCS_imgIo (b : Bool) (s : State) : (setCS b s).imgIo = s.imgIo := rfl
@[simp] theorem setCS_busy (b : Bool) (s : State) : (setCS b s).busy = s.busy := rfl
@[simp] theorem setCS_curCw (b : Bool) (s : State) : (setCS b s).curCw = s.curCw := rfl
@[simp] theorem setCS_calState (b : Bool) (s : State) : (setCS b s).calState = s.calState := rfl
@[simp] theorem setCS_pollStart (b : Bool) (s : State) : (setCS b s).pollStart = s.pollStart := rfl
@[simp] theorem setCS_pollLimit (b : Bool) (s : State) : (setCS b s).pollLimit = s.pollLimit := rfl
@[simp] theorem setCS_cs (b : Bool) (s : State) : (setCS b s).cs = b := rfl
@[simp] theorem setCS_rspValid (b : Bool) (s : State) : (setCS b s).rspValid = s.rspValid := rfl
@[simp] theorem setCS_rspStatus (b : Bool) (s : State) : (setCS b s).rspStatus = s.rspStatus := rfl
@[simp] theorem setCS_rspData (b : Bool) (s : State) : (setCS b s).rspData = s.rspData := rfl
@[simp] theorem setCS_point (b : Bool) (s : State) : (setCS b s).point = s.point := rfl
@[simp] theorem setCS_inputs (b : Bool) (s : State) : (setCS b s).inputs = s.inputs := rfl
@[simp] theorem setCS_trace (b : Bool) (s : State) : (setCS b s).trace = s.trace ++ [.setCS b] := rfl
@[simp] theorem setCS_params (b : Bool) (s : State) : (setCS b s).params = s.params := rfl

/-! ### awaitAt -/

@[simp] theorem awaitAt_imgComm (p : Point) (s : State) : (awaitAt p s).imgComm = s.imgComm := rfl
@[simp] theorem awaitAt_imgStatus (p : Point) (s : State) : (awaitAt p s).imgStatus = s.imgStatus := rfl
@[simp] theorem awaitAt_imgMode (p : Point) (s : State) : (awaitAt p s).imgMode = s.imgMode := rfl
@[simp] theorem awaitAt_imgControl (p : Point) (s : State) : (awaitAt p s).imgControl = s.imgControl := rfl
@[simp] theorem awaitAt_imgFilter (p : Point) (s : State) : (awaitAt p s).imgFilter = s.imgFilter := rfl
@[simp] theorem awaitAt_imgIo (p : Point) (s : State) : (awaitAt p s).imgIo = s.imgIo := rfl
@[simp] theorem awaitAt_busy (p : Point) (s : State) : (awaitAt p s).busy = s.busy := rfl
@[simp] theorem awaitAt_curCw (p : Point) (s : State) : (awaitAt p s).curCw = s.curCw := rfl
@[simp] theorem awaitAt_calState (p : Point) (s : State) : (awaitAt p s).calState = s.calState := rfl
@[simp] theorem awaitAt_pollStart (p : Point) (s : State) : (awaitAt p s).pollStart = s.pollStart := rfl
@[simp] theorem awaitAt_pollLimit (p : Point) (s : State) : (awaitAt p s).pollLimit = s.pollLimit := rfl
@[simp] theorem awaitAt_cs (p : Point) (s : State) : (awaitAt p s).cs = s.cs := rfl
@[simp] theorem awaitAt_rspValid (p : Point) (s : State) : (awaitAt p s).rspValid = s.rspValid := rfl
@[simp] theorem awaitAt_rspStatus (p : Point) (s : State) : (awaitAt p s).rspStatus = s.rspStatus := rfl
@[simp] theorem awaitAt_rspData (p : Point) (s : State) : (awaitAt p s).rspData = s.rspData := rfl
@[simp] theorem awaitAt_point (p : Point) (s : State) : (awaitAt p s).point = some p := rfl
@[simp] theorem awaitAt_inputs (p : Point) (s : State) : (awaitAt p s).inputs = s.inputs := rfl
@[simp] theorem awaitAt_trace (p : Point) (s : State) : (awaitAt p s).trace = s.trace := rfl
@[simp] theorem awaitAt_params (p : Point) (s : State) : (awaitAt p s).params = s.params := rfl

/-! ### setCalState -/

@[simp] theorem setCalState_imgComm (c : CalState) (s : State) : (setCalState c s).imgComm = s.imgComm := rfl
@[simp] theorem setCalState_imgStatus (c : CalState) (s : State) : (setCalState c s).imgStatus = s.imgStatus := rfl
@[simp] theorem setCalState_imgMode (c : CalState) (s : State) : (setCalState c s).imgMode = s.imgMode := rfl
@[simp] theorem setCalState_imgControl (c : CalState) (s : State) : (setCalState c s).imgControl = s.imgControl := rfl
@[simp] theorem setCalState_imgFilter (c : CalState) (s : State) : (setCalState c s).imgFilter = s.imgFilter := rfl
@[simp] theorem setCalState_imgIo (c : CalState) (s : State) : (setCalState c s).imgIo = s.imgIo := rfl
@[simp] theorem setCalState_busy (c : CalState) (s : State) : (setCalState c s).busy = s.busy := rfl
@[simp] theorem setCalState_curCw (c : CalState) (s : State) : (setCalState c s).curCw = s.curCw := rfl
@[simp] theorem setCalState_calState (c : CalState) (s : State) : (setCalState c s).calState = c := rfl
@[simp] theorem setCalState_pollStart (c : CalState) (s : State) : (setCalState c s).pollStart = s.pollStart := rfl
@[simp] theorem setCalState_pollLimit (c : CalState) (s : State) : (setCalState c s).pollLimit = s.pollLimit := rfl
@[simp] theorem setCalState_cs (c : CalState) (s : State) : (setCalState c s).cs = s.cs := rfl
@[simp] theorem setCalState_rspValid (c : CalState) (s : State) : (setCalState c s).rspValid = s.rspValid := rfl
@[simp] theorem setCalState_rspStatus (c : CalState) (s : State) : (setCalState c s).rspStatus = s.rspStatus := rfl
@[simp] theorem setCalState_rspData (c : CalState) (s : State) : (setCalState c s).rspData = s.rspData := rfl
@[simp] theorem setCalState_point (c : CalState) (s : State) : (setCalState c s).point = s.point := rfl
@[simp] theorem setCalState_inputs (c : CalState) (s : State) : (setCalState c s).inputs = s.inputs := rfl
@[simp] theorem setCalState_trace (c : CalState) (s : State) : (setCalState c s).trace = s.trace := rfl
@[simp] theorem setCalState_params (c : CalState) (s : State) : (setCalState c s).params = s.params := rfl

/-! ### respond -/

@[simp] theorem respond_imgComm (st : RspStatus) (d : U32) (s : State) : (respond st d s).imgComm = s.imgComm := rfl
@[simp] theorem respond_imgStatus (st : RspStatus) (d : U32) (s : State) : (respond st d s).imgStatus = s.imgStatus := rfl
@[simp] theorem respond_imgMode (st : RspStatus) (d : U32) (s : State) : (respond st d s).imgMode = s.imgMode := rfl
@[simp] theorem respond_imgControl (st : RspStatus) (d : U32) (s : State) : (respond st d s).imgControl = s.imgControl := rfl
@[simp] theorem respond_imgFilter (st : RspStatus) (d : U32) (s : State) : (respond st d s).imgFilter = s.imgFilter := rfl
@[simp] theorem respond_imgIo (st : RspStatus) (d : U32) (s : State) : (respond st d s).imgIo = s.imgIo := rfl
@[simp] theorem respond_busy (st : RspStatus) (d : U32) (s : State) : (respond st d s).busy = false := rfl
@[simp] theorem respond_curCw (st : RspStatus) (d : U32) (s : State) : (respond st d s).curCw = s.curCw := rfl
@[simp] theorem respond_calState (st : RspStatus) (d : U32) (s : State) : (respond st d s).calState = s.calState := rfl
@[simp] theorem respond_pollStart (st : RspStatus) (d : U32) (s : State) : (respond st d s).pollStart = s.pollStart := rfl
@[simp] theorem respond_pollLimit (st : RspStatus) (d : U32) (s : State) : (respond st d s).pollLimit = s.pollLimit := rfl
@[simp] theorem respond_cs (st : RspStatus) (d : U32) (s : State) : (respond st d s).cs = s.cs := rfl
@[simp] theorem respond_rspValid (st : RspStatus) (d : U32) (s : State) : (respond st d s).rspValid = true := rfl
@[simp] theorem respond_rspStatus (st : RspStatus) (d : U32) (s : State) : (respond st d s).rspStatus = st := rfl
@[simp] theorem respond_rspData (st : RspStatus) (d : U32) (s : State) : (respond st d s).rspData = d := rfl
@[simp] theorem respond_point (st : RspStatus) (d : U32) (s : State) : (respond st d s).point = none := rfl
@[simp] theorem respond_inputs (st : RspStatus) (d : U32) (s : State) : (respond st d s).inputs = s.inputs := rfl
@[simp] theorem respond_trace (st : RspStatus) (d : U32) (s : State) : (respond st d s).trace = s.trace ++ [.respond st d] := rfl
@[simp] theorem respond_params (st : RspStatus) (d : U32) (s : State) : (respond st d s).params = s.params := rfl

/-! ### takeResponse -/

@[simp] theorem takeResponse_imgComm (s : State) : (takeResponse s).imgComm = s.imgComm := rfl
@[simp] theorem takeResponse_imgStatus (s : State) : (takeResponse s).imgStatus = s.imgStatus := rfl
@[simp] theorem takeResponse_imgMode (s : State) : (takeResponse s).imgMode = s.imgMode := rfl
@[simp] theorem takeResponse_imgControl (s : State) : (takeResponse s).imgControl = s.imgControl := rfl
@[simp] theorem takeResponse_imgFilter (s : State) : (takeResponse s).imgFilter = s.imgFilter := rfl
@[simp] theorem takeResponse_imgIo (s : State) : (takeResponse s).imgIo = s.imgIo := rfl
@[simp] theorem takeResponse_busy (s : State) : (takeResponse s).busy = s.busy := rfl
@[simp] theorem takeResponse_curCw (s : State) : (takeResponse s).curCw = s.curCw := rfl
@[simp] theorem takeResponse_calState (s : State) : (takeResponse s).calState = s.calState := rfl
@[simp] theorem takeResponse_pollStart (s : State) : (takeResponse s).pollStart = s.pollStart := rfl
@[simp] theorem takeResponse_pollLimit (s : State) : (takeResponse s).pollLimit = s.pollLimit := rfl
@[simp] theorem takeResponse_cs (s : State) : (takeResponse s).cs = s.cs := rfl
@[simp] theorem takeResponse_rspValid (s : State) : (takeResponse s).rspValid = false := rfl
@[simp] theorem takeResponse_rspStatus (s : State) : (takeResponse s).rspStatus = s.rspStatus := rfl
@[simp] theorem takeResponse_rspData (s : State) : (takeResponse s).rspData = s.rspData := rfl
@[simp] theorem takeResponse_point (s : State) : (takeResponse s).point = s.point := rfl
@[simp] theorem takeResponse_inputs (s : State) : (takeResponse s).inputs = s.inputs := rfl
@[simp] theorem takeResponse_trace (s : State) : (takeResponse s).trace = s.trace := rfl
@[simp] theorem takeResponse_params (s : State) : (takeResponse s).params = s.params := rfl

/-! ### acceptCommand -/

@[simp] theorem acceptCommand_imgComm (cw : CommandWord) (s : State) : (acceptCommand cw s).imgComm = s.imgComm := rfl
@[simp] theorem acceptCommand_imgStatus (cw : CommandWord) (s : State) : (acceptCommand cw s).imgStatus = s.imgStatus := rfl
@[simp] theorem acceptCommand_imgMode (cw : CommandWord) (s : State) : (acceptCommand cw s).imgMode = s.imgMode := rfl
@[simp] theorem acceptCommand_imgControl (cw : CommandWord) (s : State) : (acceptCommand cw s).imgControl = s.imgControl := rfl
@[simp] theorem acceptCommand_imgFilter (cw : CommandWord) (s : State) : (acceptCommand cw s).imgFilter = s.imgFilter := rfl
@[simp] theorem acceptCommand_imgIo (cw : CommandWord) (s : State) : (acceptCommand cw s).imgIo = s.imgIo := rfl
@[simp] theorem acceptCommand_busy (cw : CommandWord) (s : State) : (acceptCommand cw s).busy = true := rfl
@[simp] theorem acceptCommand_curCw (cw : CommandWord) (s : State) : (acceptCommand cw s).curCw = cw := rfl
@[simp] theorem acceptCommand_calState (cw : CommandWord) (s : State) : (acceptCommand cw s).calState = s.calState := rfl
@[simp] theorem acceptCommand_pollStart (cw : CommandWord) (s : State) : (acceptCommand cw s).pollStart = s.pollStart := rfl
@[simp] theorem acceptCommand_pollLimit (cw : CommandWord) (s : State) : (acceptCommand cw s).pollLimit = s.pollLimit := rfl
@[simp] theorem acceptCommand_cs (cw : CommandWord) (s : State) : (acceptCommand cw s).cs = s.cs := rfl
@[simp] theorem acceptCommand_rspValid (cw : CommandWord) (s : State) : (acceptCommand cw s).rspValid = s.rspValid := rfl
@[simp] theorem acceptCommand_rspStatus (cw : CommandWord) (s : State) : (acceptCommand cw s).rspStatus = s.rspStatus := rfl
@[simp] theorem acceptCommand_rspData (cw : CommandWord) (s : State) : (acceptCommand cw s).rspData = s.rspData := rfl
@[simp] theorem acceptCommand_point (cw : CommandWord) (s : State) : (acceptCommand cw s).point = s.point := rfl
@[simp] theorem acceptCommand_inputs (cw : CommandWord) (s : State) : (acceptCommand cw s).inputs = s.inputs := rfl
@[simp] theorem acceptCommand_trace (cw : CommandWord) (s : State) : (acceptCommand cw s).trace = s.trace := rfl
@[simp] theorem acceptCommand_params (cw : CommandWord) (s : State) : (acceptCommand cw s).params = s.params := rfl

/-! ### zeroImages -/

@[simp] theorem zeroImages_imgComm (s : State) : (zeroImages s).imgComm = 0x00#8 := rfl
@[simp] theorem zeroImages_imgStatus (s : State) : (zeroImages s).imgStatus = 0x00#8 := rfl
@[simp] theorem zeroImages_imgMode (s : State) : (zeroImages s).imgMode = 0x00#8 := rfl
@[simp] theorem zeroImages_imgControl (s : State) : (zeroImages s).imgControl = 0x00#8 := rfl
@[simp] theorem zeroImages_imgFilter (s : State) : (zeroImages s).imgFilter = 0x00#8 := rfl
@[simp] theorem zeroImages_imgIo (s : State) : (zeroImages s).imgIo = 0x00#8 := rfl
@[simp] theorem zeroImages_busy (s : State) : (zeroImages s).busy = s.busy := rfl
@[simp] theorem zeroImages_curCw (s : State) : (zeroImages s).curCw = s.curCw := rfl
@[simp] theorem zeroImages_calState (s : State) : (zeroImages s).calState = s.calState := rfl
@[simp] theorem zeroImages_pollStart (s : State) : (zeroImages s).pollStart = s.pollStart := rfl
@[simp] theorem zeroImages_pollLimit (s : State) : (zeroImages s).pollLimit = s.pollLimit := rfl
@[simp] theorem zeroImages_cs (s : State) : (zeroImages s).cs = s.cs := rfl
@[simp] theorem zeroImages_rspValid (s : State) : (zeroImages s).rspValid = s.rspValid := rfl
@[simp] theorem zeroImages_rspStatus (s : State) : (zeroImages s).rspStatus = s.rspStatus := rfl
@[simp] theorem zeroImages_rspData (s : State) : (zeroImages s).rspData = s.rspData := rfl
@[simp] theorem zeroImages_point (s : State) : (zeroImages s).point = s.point := rfl
@[simp] theorem zeroImages_inputs (s : State) : (zeroImages s).inputs = s.inputs := rfl
@[simp] theorem zeroImages_trace (s : State) : (zeroImages s).trace = s.trace := rfl
@[simp] theorem zeroImages_params (s : State) : (zeroImages s).params = s.params := rfl

/-! ### storeImage -/

@[simp] theorem storeImage_imgComm (x : Image) (v : Byte) (s : State) :
    (storeImage x v s).imgComm = if x = .comm then v else s.imgComm := by
  cases x <;> rfl
@[simp] theorem storeImage_imgStatus (x : Image) (v : Byte) (s : State) :
    (storeImage x v s).imgStatus = if x = .status then v else s.imgStatus := by
  cases x <;> rfl
@[simp] theorem storeImage_imgMode (x : Image) (v : Byte) (s : State) :
    (storeImage x v s).imgMode = if x = .mode then v else s.imgMode := by
  cases x <;> rfl
@[simp] theorem storeImage_imgControl (x : Image) (v : Byte) (s : State) :
    (storeImage x v s).imgControl = if x = .control then v else s.imgControl := by
  cases x <;> rfl
@[simp] theorem storeImage_imgFilter (x : Image) (v : Byte) (s : State) :
    (storeImage x v s).imgFilter = if x = .filter then v else s.imgFilter := by
  cases x <;> rfl
@[simp] theorem storeImage_imgIo (x : Image) (v : Byte) (s : State) :
    (storeImage x v s).imgIo = if x = .io then v else s.imgIo := by
  cases x <;> rfl
@[simp] theorem storeImage_busy (x : Image) (v : Byte) (s : State) : (storeImage x v s).busy = s.busy := by
  cases x <;> rfl
@[simp] theorem storeImage_curCw (x : Image) (v : Byte) (s : State) : (storeImage x v s).curCw = s.curCw := by
  cases x <;> rfl
@[simp] theorem storeImage_calState (x : Image) (v : Byte) (s : State) : (storeImage x v s).calState = s.calState := by
  cases x <;> rfl
@[simp] theorem storeImage_pollStart (x : Image) (v : Byte) (s : State) : (storeImage x v s).pollStart = s.pollStart := by
  cases x <;> rfl
@[simp] theorem storeImage_pollLimit (x : Image) (v : Byte) (s : State) : (storeImage x v s).pollLimit = s.pollLimit := by
  cases x <;> rfl
@[simp] theorem storeImage_cs (x : Image) (v : Byte) (s : State) : (storeImage x v s).cs = s.cs := by
  cases x <;> rfl
@[simp] theorem storeImage_rspValid (x : Image) (v : Byte) (s : State) : (storeImage x v s).rspValid = s.rspValid := by
  cases x <;> rfl
@[simp] theorem storeImage_rspStatus (x : Image) (v : Byte) (s : State) : (storeImage x v s).rspStatus = s.rspStatus := by
  cases x <;> rfl
@[simp] theorem storeImage_rspData (x : Image) (v : Byte) (s : State) : (storeImage x v s).rspData = s.rspData := by
  cases x <;> rfl
@[simp] theorem storeImage_point (x : Image) (v : Byte) (s : State) : (storeImage x v s).point = s.point := by
  cases x <;> rfl
@[simp] theorem storeImage_inputs (x : Image) (v : Byte) (s : State) : (storeImage x v s).inputs = s.inputs := by
  cases x <;> rfl
@[simp] theorem storeImage_trace (x : Image) (v : Byte) (s : State) : (storeImage x v s).trace = s.trace := by
  cases x <;> rfl
@[simp] theorem storeImage_params (x : Image) (v : Byte) (s : State) : (storeImage x v s).params = s.params := by
  cases x <;> rfl

/-! ### resetBlock -/

@[simp] theorem resetBlock_imgComm (s : State) : (resetBlock s).imgComm = 0x00#8 := rfl
@[simp] theorem resetBlock_imgStatus (s : State) : (resetBlock s).imgStatus = 0x00#8 := rfl
@[simp] theorem resetBlock_imgMode (s : State) : (resetBlock s).imgMode = 0x00#8 := rfl
@[simp] theorem resetBlock_imgControl (s : State) : (resetBlock s).imgControl = 0x00#8 := rfl
@[simp] theorem resetBlock_imgFilter (s : State) : (resetBlock s).imgFilter = 0x00#8 := rfl
@[simp] theorem resetBlock_imgIo (s : State) : (resetBlock s).imgIo = 0x00#8 := rfl
@[simp] theorem resetBlock_busy (s : State) : (resetBlock s).busy = false := rfl
@[simp] theorem resetBlock_curCw (s : State) : (resetBlock s).curCw = 0#64 := rfl
@[simp] theorem resetBlock_calState (s : State) : (resetBlock s).calState = .idle := rfl
@[simp] theorem resetBlock_pollStart (s : State) : (resetBlock s).pollStart = 0#32 := rfl
@[simp] theorem resetBlock_pollLimit (s : State) : (resetBlock s).pollLimit = 0#32 := rfl
@[simp] theorem resetBlock_cs (s : State) : (resetBlock s).cs = false := rfl
@[simp] theorem resetBlock_rspValid (s : State) : (resetBlock s).rspValid = false := rfl
@[simp] theorem resetBlock_rspStatus (s : State) : (resetBlock s).rspStatus = .ok := rfl
@[simp] theorem resetBlock_rspData (s : State) : (resetBlock s).rspData = 0#32 := rfl
@[simp] theorem resetBlock_point (s : State) : (resetBlock s).point = none := rfl
@[simp] theorem resetBlock_inputs (s : State) : (resetBlock s).inputs = s.inputs := rfl
@[simp] theorem resetBlock_trace (s : State) : (resetBlock s).trace = s.trace := rfl
@[simp] theorem resetBlock_params (s : State) : (resetBlock s).params = s.params := rfl

end Sys2Proof.Machine
end

