-- ==== Sys2Proof/Laws/Ops.lean ====
section
/-! SUPPORT. For each shared operation, once and whole, what it does. -/

namespace Sys2Proof.Machine

/-- A transaction starts: the command byte with WEN = 0, chip-select, the address-phase request, the awaited answer. -/
theorem beginTransact_eq (t : Transaction) (k : Cont) (s : State) :
    beginTransact t k s =
      { s with
        imgComm := transactionByte t false s
        cs := true
        point := some (.addrPhase t k)
        trace := s.trace ++ [.setCS true, .busOut [transactionByte t false s] s.params.busTimeoutMs] } := by
  simp [beginTransact, awaitAt, emit, setCS, storeImage]

/-- The transaction byte depends on the parameters alone. -/
theorem transactionByte_congr (t : Transaction) (wen : Bool) {s u : State} (h : u.params = s.params) :
    transactionByte t wen u = transactionByte t wen s := by
  simp [transactionByte, h]

@[simp] theorem transactionByte_beginTransact (t t' : Transaction) (wen : Bool) (k : Cont) (s : State) :
    transactionByte t wen (beginTransact t' k s) = transactionByte t wen s :=
  transactionByte_congr t wen rfl

/-- A late answer changes nothing (R159). -/
@[simp] theorem ignoreLateAnswer_eq (a : Answer) (s : State) : ignoreLateAnswer a s = s := rfl

/-- A response ends the command and touches no image, no poll register and not chip-select. -/
theorem respond_eq (st : RspStatus) (d : U32) (s : State) :
    respond st d s =
      { s with
        rspStatus := st, rspData := d, rspValid := true, busy := false, point := none,
        trace := s.trace ++ [.respond st d] } := rfl

/-- `update_image_on_read` stores the byte in at most one of five images. -/
theorem updateImageOnRead_eq (a : RegAddr) (b : Byte) (s : State) :
    updateImageOnRead a b s =
      { s with
        imgStatus := if a = 0#4 then b else s.imgStatus
        imgMode := if a = 1#4 then b else s.imgMode
        imgControl := if a = 2#4 then b else s.imgControl
        imgFilter := if a = 3#4 then b else s.imgFilter
        imgIo := if a = 7#4 then b else s.imgIo } := by
  have h : ∀ a : RegAddr, a = 0#4 ∨ a = 1#4 ∨ a = 2#4 ∨ a = 3#4 ∨ a = 7#4 ∨
      (imageOfRead a = none ∧ a ≠ 0#4 ∧ a ≠ 1#4 ∧ a ≠ 2#4 ∧ a ≠ 3#4 ∧ a ≠ 7#4) := by decide
  rcases h a with rfl | rfl | rfl | rfl | rfl | ⟨hn, h0, h1, h2, h3, h7⟩
  · simp [updateImageOnRead, imageOfRead, storeImage]
  · simp [updateImageOnRead, imageOfRead, storeImage]
  · simp [updateImageOnRead, imageOfRead, storeImage]
  · simp [updateImageOnRead, imageOfRead, storeImage]
  · simp [updateImageOnRead, imageOfRead, storeImage]
  · simp [updateImageOnRead, hn, h0, h1, h2, h3, h7]

/-- The end of a transaction-status command. -/
theorem respondResult_err (s : State) : respondResult .err s = respond .busError 0#32 s := rfl

theorem respondResult_ok (bs : List Byte) (s : State) : respondResult (.ok bs) s = respond .ok 0#32 s := rfl

end Sys2Proof.Machine
end

