-- ==== Sys2Proof/Laws/Engine.lean ====
section
/-! SUPPORT. How a running command takes the environment's events: the equations of `settle` and of a transaction's two
phases. -/

namespace Sys2Proof.Machine

@[simp] theorem settle_nil (s : State) : settle [] s = { s with inputs := [] } := rfl

/-- A running command takes the next event. -/
theorem settle_running {s : State} (h : s.point.isSome = true) (x : Input) (xs : List Input) :
    settle (x :: xs) s = settle xs (react x s) := by simp [settle, h]

/-- A command that has ended takes no event. -/
theorem settle_ended {s : State} (h : s.point = none) (xs : List Input) : settle xs s = { s with inputs := xs } := by
  cases xs <;> simp [settle, h]

@[simp] theorem react_command (cw : CommandWord) (s : State) : react (.command cw) s = s := rfl

@[simp] theorem react_take (s : State) : react .take s = takeResponse s := rfl

@[simp] theorem react_late (a : Answer) (s : State) : react (.late a) s = s := rfl

@[simp] theorem react_reset (s : State) : react .reset s = resetBlock s := rfl

/-- The address phase of a waiting transaction is answered. -/
theorem react_bus_addrPhase {s : State} {t : Transaction} {k : Cont} (h : s.point = some (.addrPhase t k))
    (r : BusAnswer) : react (.bus r) s = answerAddrPhase t k r s := by simp [react, onBus, h]

/-- The data phase of a waiting transaction is answered. -/
theorem react_bus_dataPhase {s : State} {t : Transaction} {k : Cont} (h : s.point = some (.dataPhase t k))
    (r : BusAnswer) : react (.bus r) s = answerDataPhase t k r s := by simp [react, onBus, h]

theorem react_time_pollStart {s : State} {p : CalPhase} (h : s.point = some (.pollStart p)) (t : U32) :
    react (.time t) s = answerPollStart p t s := by simp [react, onTime, h]

theorem react_time_pollTime {s : State} {p : CalPhase} (h : s.point = some (.pollTime p)) (t : U32) :
    react (.time t) s = answerPollTime p t s := by simp [react, onTime, h]

theorem react_delayDone_pollDelay {s : State} {p : CalPhase} (h : s.point = some (.pollDelay p)) :
    react .delayDone s = pollRead p s := by simp [react, onDelayDone, h]

/-! ### What no reaction depends on or writes: the inputs and the parameters -/

/-- The state with other inputs. -/
def withInputs (xs : List Input) (s : State) : State := { s with inputs := xs }

theorem storeImage_withInputs (x : Image) (v : Byte) (xs : List Input) (s : State) :
    storeImage x v (withInputs xs s) = withInputs xs (storeImage x v s) := by cases x <;> rfl

theorem beginTransact_withInputs (t : Transaction) (k : Cont) (xs : List Input) (s : State) :
    beginTransact t k (withInputs xs s) = withInputs xs (beginTransact t k s) := rfl

theorem configWrite_withInputs (a : RegAddr) (x : Image) (v : Byte) (k : Cont) (xs : List Input) (s : State) :
    configWrite a x v k (withInputs xs s) = withInputs xs (configWrite a x v k s) := by
  simp only [configWrite, regWrite, storeImage_withInputs, beginTransact_withInputs]

theorem refreshImage_withInputs (t : Transaction) (bs : List Byte) (xs : List Input) (s : State) :
    refreshImage t bs (withInputs xs s) = withInputs xs (refreshImage t bs s) := by
  unfold refreshImage
  split
  · simp only [updateImageOnRead_eq, withInputs]
  · rfl

theorem returnTo_withInputs (k : Cont) (r : TxnResult) (xs : List Input) (s : State) :
    returnTo k r (withInputs xs s) = withInputs xs (returnTo k r s) := by
  cases r with
  | err => cases k <;> rfl
  | ok bs =>
    cases k with
    | init stage => cases stage <;> rfl
    | calPoll phase =>
      simp only [returnTo, afterCalPoll, show (withInputs xs s).params = s.params from rfl]
      split
      · cases phase <;> rfl
      · rfl
    | rawWrite => rfl
    | rawRead => rfl
    | config => rfl
    | calRequest phase => rfl
    | readConv => rfl
    | probe => rfl

theorem onBus_withInputs (r : BusAnswer) (xs : List Input) (s : State) :
    onBus r (withInputs xs s) = withInputs xs (onBus r s) := by
  simp only [onBus, show (withInputs xs s).point = s.point from rfl]
  cases s.point with
  | none => rfl
  | some p =>
    cases p with
    | addrPhase t k =>
      cases r with
      | err => exact returnTo_withInputs k .err xs (setCS false (storeImage .comm (transactionByte t true s) s))
      | ok l =>
        simp only [answerAddrPhase]
        split
        · exact returnTo_withInputs k (.ok []) xs (setCS false (storeImage .comm (transactionByte t true s) s))
        · rfl
    | dataPhase t k =>
      cases r with
      | err => exact returnTo_withInputs k .err xs (setCS false s)
      | ok l =>
        simp only [answerDataPhase]
        cases t.dir with
        | write => exact returnTo_withInputs k (.ok []) xs (setCS false s)
        | read =>
          simp only [show setCS false (withInputs xs s) = withInputs xs (setCS false s) from rfl,
            refreshImage_withInputs, returnTo_withInputs]
    | pollStart phase => rfl
    | pollTime phase => rfl
    | pollDelay phase => rfl

theorem onTime_withInputs (t : U32) (xs : List Input) (s : State) :
    onTime t (withInputs xs s) = withInputs xs (onTime t s) := by
  simp only [onTime, show (withInputs xs s).point = s.point from rfl]
  cases s.point with
  | none => rfl
  | some p =>
    cases p with
    | pollTime phase =>
      simp only [answerPollTime, show (withInputs xs s).pollStart = s.pollStart from rfl,
        show (withInputs xs s).pollLimit = s.pollLimit from rfl,
        show (withInputs xs s).params = s.params from rfl]
      split
      · rfl
      · split <;> rfl
    | addrPhase t k => rfl
    | dataPhase t k => rfl
    | pollStart phase => rfl
    | pollDelay phase => rfl

theorem onDelayDone_withInputs (xs : List Input) (s : State) :
    onDelayDone (withInputs xs s) = withInputs xs (onDelayDone s) := by
  simp only [onDelayDone, show (withInputs xs s).point = s.point from rfl]
  cases s.point with
  | none => rfl
  | some p => cases p <;> rfl

/-- No reaction reads or writes the events still to come. -/
theorem react_withInputs (x : Input) (xs : List Input) (s : State) :
    react x (withInputs xs s) = withInputs xs (react x s) := by
  cases x with
  | command cw => rfl
  | take => rfl
  | bus r => exact onBus_withInputs r xs s
  | time t => exact onTime_withInputs t xs s
  | delayDone => exact onDelayDone_withInputs xs s
  | late a => rfl
  | reset => rfl

/-- `settle` does not depend on the inputs field. -/
theorem settle_withInputs (xs ys : List Input) (s : State) : settle xs (withInputs ys s) = settle xs s := by
  induction xs generalizing s with
  | nil => rfl
  | cons x xs ih =>
    simp only [settle, show (withInputs ys s).point = s.point from rfl, react_withInputs, ih]
    rfl

/-- A command runs on the events still to come. -/
theorem runCommand_of_inputs {s : State} {xs : List Input} (h : s.inputs = xs) : runCommand s = settle xs s := by
  rw [runCommand, h]

/-- A transaction runs on the events still to come. -/
theorem runCommand_beginTransact {s : State} {xs : List Input} (h : s.inputs = xs) (t : Transaction) (k : Cont) :
    runCommand (beginTransact t k s) = settle xs (beginTransact t k s) := runCommand_of_inputs h

/-! ### A transaction's phases -/

/-- A transaction whose address phase fails (R102). -/
theorem settle_transact_addr_err (t : Transaction) (k : Cont) (s : State) (xs : List Input) :
    settle (.bus .err :: xs) (beginTransact t k s) =
      settle xs (returnTo k .err
        { s with
          imgComm := transactionByte t true s, cs := false, point := some (.addrPhase t k)
          trace := s.trace ++
            [.setCS true, .busOut [transactionByte t false s] s.params.busTimeoutMs, .setCS false] }) := by
  rw [settle_running (by simp [beginTransact_eq]), react_bus_addrPhase (t := t) (k := k) rfl]
  simp [answerAddrPhase, beginTransact_eq, setCS, emit, storeImage, transactionByte]

/-- A transaction without a data phase whose address phase succeeds (R101). -/
theorem settle_transact_select (t : Transaction) (k : Cont) (s : State) (l : U32) (xs : List Input) (h : t.len = 0) :
    settle (.bus (.ok l) :: xs) (beginTransact t k s) =
      settle xs (returnTo k (.ok [])
        { s with
          imgComm := transactionByte t true s, cs := false, point := some (.addrPhase t k)
          trace := s.trace ++
            [.setCS true, .busOut [transactionByte t false s] s.params.busTimeoutMs, .setCS false] }) := by
  rw [settle_running (by simp [beginTransact_eq]), react_bus_addrPhase (t := t) (k := k) rfl]
  simp [answerAddrPhase, beginTransact_eq, setCS, emit, storeImage, transactionByte, h]

/-- The state in which a transaction's frame has ended after its data phase, before its rule goes on. -/
def afterFrame (t : Transaction) (k : Cont) (s : State) : State :=
  { s with
    imgComm := transactionByte t true s, cs := false, point := some (.dataPhase t k)
    trace := s.trace ++
      [.setCS true, .busOut [transactionByte t false s] s.params.busTimeoutMs, dataRequest t s, .setCS false] }

/-- A transaction with a data phase whose data phase fails (R94). -/
theorem settle_transact_data_err (t : Transaction) (k : Cont) (s : State) (l : U32) (xs : List Input)
    (h : t.len ≠ 0) :
    settle (.bus (.ok l) :: .bus .err :: xs) (beginTransact t k s) =
      settle xs (returnTo k .err (afterFrame t k s)) := by
  rw [settle_running (by simp [beginTransact_eq]), react_bus_addrPhase (t := t) (k := k) rfl]
  simp only [answerAddrPhase, if_neg h]
  rw [settle_running (by simp), react_bus_dataPhase (t := t) (k := k) rfl]
  simp [answerDataPhase, afterFrame, beginTransact_eq, setCS, emit, awaitAt, storeImage, transactionByte, dataRequest]

/-- A write transaction that succeeds (R90). -/
theorem settle_transact_write (t : Transaction) (k : Cont) (s : State) (l l' : U32) (xs : List Input)
    (h : t.len ≠ 0) (hd : t.dir = .write) :
    settle (.bus (.ok l) :: .bus (.ok l') :: xs) (beginTransact t k s) =
      settle xs (returnTo k (.ok []) (afterFrame t k s)) := by
  rw [settle_running (by simp [beginTransact_eq]), react_bus_addrPhase (t := t) (k := k) rfl]
  simp only [answerAddrPhase, if_neg h]
  rw [settle_running (by simp), react_bus_dataPhase (t := t) (k := k) rfl]
  simp [answerDataPhase, afterFrame, beginTransact_eq, setCS, emit, awaitAt, storeImage, transactionByte, dataRequest, hd]

/-- A read transaction that succeeds (R90, R93). -/
theorem settle_transact_read (t : Transaction) (k : Cont) (s : State) (l l' : U32) (xs : List Input)
    (h : t.len ≠ 0) (hd : t.dir = .read) :
    settle (.bus (.ok l) :: .bus (.ok l') :: xs) (beginTransact t k s) =
      settle xs (returnTo k (.ok (byteLanes t.len l'))
        (refreshImage t (byteLanes t.len l') (afterFrame t k s))) := by
  rw [settle_running (by simp [beginTransact_eq]), react_bus_addrPhase (t := t) (k := k) rfl]
  simp only [answerAddrPhase, if_neg h]
  rw [settle_running (by simp), react_bus_dataPhase (t := t) (k := k) rfl]
  simp [answerDataPhase, afterFrame, beginTransact_eq, setCS, emit, awaitAt, storeImage, transactionByte, dataRequest, hd]

end Sys2Proof.Machine
end

