-- ==== Sys2Proof/Laws/PerInstr.lean ====
section
/-! SUPPORT. Per instruction: the encoded word of every well-formed term lies in the term's row of spec/opcode_table.json (its
bits under the row's mask are the row's match). -/

namespace Sys2Proof.Laws

/-- A row's mask in spec/opcode_table.json. -/
def rowMask : Instr → CommandWord
  | .init => 0xF#64
  | .writeReg _ _ _ => 0xF#64
  | .readReg _ _ => 0xF#64
  | .cfgMode _ _ _ _ _ _ => 0xF#64
  | .cfgChannel _ _ _ => 0xF#64
  | .cfgFilter _ => 0xF#64
  | .cfgIo _ _ => 0xF#64
  | .calibrate _ => 0xF#64
  | .readConv => 0xF#64
  | .probe => 0xF#64
  | .selectW _ => 0x70F#64
  | .selectR _ => 0x70F#64
  | .readStatus => 0x7FF#64
  | .readMode => 0x7FF#64
  | .readControl => 0x7FF#64
  | .readId => 0x7FF#64
  | .illegalOp0 => 0xF#64
  | .illegalOpB => 0xF#64
  | .illegalOpCF _ => 0xC#64
  | .illegalWriteRegLen57 _ => 0x50F#64
  | .illegalWriteRegLen67 _ => 0x60F#64
  | .illegalReadRegLen57 _ => 0x50F#64
  | .illegalReadRegLen67 _ => 0x60F#64

/-- A row's match in spec/opcode_table.json. -/
def rowMatch : Instr → CommandWord
  | .init => 0x1#64
  | .writeReg _ _ _ => 0x2#64
  | .readReg _ _ => 0x3#64
  | .cfgMode _ _ _ _ _ _ => 0x4#64
  | .cfgChannel _ _ _ => 0x5#64
  | .cfgFilter _ => 0x6#64
  | .cfgIo _ _ => 0x7#64
  | .calibrate _ => 0x8#64
  | .readConv => 0x9#64
  | .probe => 0xA#64
  | .selectW _ => 0x2#64
  | .selectR _ => 0x3#64
  | .readStatus => 0x103#64
  | .readMode => 0x113#64
  | .readControl => 0x123#64
  | .readId => 0x1F3#64
  | .illegalOp0 => 0x0#64
  | .illegalOpB => 0xB#64
  | .illegalOpCF _ => 0xC#64
  | .illegalWriteRegLen57 _ => 0x502#64
  | .illegalWriteRegLen67 _ => 0x602#64
  | .illegalReadRegLen57 _ => 0x503#64
  | .illegalReadRegLen67 _ => 0x603#64

/-- An encoded word under a mask of the OP field alone. -/
theorem encodeFields_and_op (op : BitVec 4) (a : RegAddr) (n : BitVec 3) (arg : U32) (m : BitVec 4) :
    encodeFields op a n arg &&& m.setWidth 64 = (op &&& m).setWidth 64 := by
  unfold encodeFields
  ext i hi
  by_cases h4 : i < 4
  · have h8 : i < 8 := by omega
    have h16 : i < 16 := by omega
    simp [h4, h8, h16]
  · have hm : m.getLsbD i = false := BitVec.getLsbD_of_ge _ _ (by omega)
    simp [hm]

namespace EncodeMatchesRow

/-- The encoded word of a well-formed term lies in the term's row. -/
def Statement (i : Instr) : Prop := i.wf = true → encode i &&& rowMask i = rowMatch i

theorem init : Statement .init := fun _ => by decide
theorem writeReg (a : RegAddr) (n : BitVec 3) (arg : U32) : Statement (.writeReg a n arg) :=
  fun _ => encodeFields_and_op 0x2#4 a n arg 0xF#4
theorem readReg (a : RegAddr) (n : BitVec 3) : Statement (.readReg a n) :=
  fun _ => encodeFields_and_op 0x3#4 a n 0#32 0xF#4
theorem cfgMode (md : BitVec 3) (b3 b4 b5 b6 b7 : Bool) : Statement (.cfgMode md b3 b4 b5 b6 b7) :=
  fun _ => encodeFields_and_op 0x4#4 0#4 0#3 _ 0xF#4
theorem cfgChannel (ch : BitVec 4) (rn : BitVec 3) (pol : Bool) : Statement (.cfgChannel ch rn pol) :=
  fun _ => encodeFields_and_op 0x5#4 0#4 0#3 _ 0xF#4
theorem cfgFilter (sf : Byte) : Statement (.cfgFilter sf) := fun _ => encodeFields_and_op 0x6#4 0#4 0#3 _ 0xF#4
theorem cfgIo (p q : Bool) : Statement (.cfgIo p q) := fun _ => encodeFields_and_op 0x7#4 0#4 0#3 _ 0xF#4
theorem calibrate (t : U32) : Statement (.calibrate t) := fun _ => encodeFields_and_op 0x8#4 0#4 0#3 t 0xF#4
theorem readConv : Statement .readConv := fun _ => by decide
theorem probe : Statement .probe := fun _ => by decide
theorem selectW (a : RegAddr) : Statement (.selectW a) := fun _ => by revert a; decide
theorem selectR (a : RegAddr) : Statement (.selectR a) := fun _ => by revert a; decide
theorem readStatus : Statement .readStatus := fun _ => by decide
theorem readMode : Statement .readMode := fun _ => by decide
theorem readControl : Statement .readControl := fun _ => by decide
theorem readId : Statement .readId := fun _ => by decide
theorem illegalOp0 : Statement .illegalOp0 := fun _ => by decide
theorem illegalOpB : Statement .illegalOpB := fun _ => by decide
theorem illegalOpCF (low : BitVec 2) : Statement (.illegalOpCF low) := fun _ => by revert low; decide
theorem illegalWriteRegLen57 (b : Bool) : Statement (.illegalWriteRegLen57 b) := fun _ => by revert b; decide
theorem illegalWriteRegLen67 (b : Bool) : Statement (.illegalWriteRegLen67 b) := fun _ => by revert b; decide
theorem illegalReadRegLen57 (b : Bool) : Statement (.illegalReadRegLen57 b) := fun _ => by revert b; decide
theorem illegalReadRegLen67 (b : Bool) : Statement (.illegalReadRegLen67 b) := fun _ => by revert b; decide

end EncodeMatchesRow

end Sys2Proof.Laws
end

