-- ==== Sys2Proof/Laws/Step.lean ====
section
/-! SUPPORT. What one step does, once and whole: refuse its tables, go on with a running command, wait, or take one event. -/

namespace Sys2Proof.Machine

/-- The step under tables that R81 refuses. -/
theorem step_badTables {s : State} (h : paramsOk s.params = false) : step s = .refused .layoutTable := by
  simp [step, fetch, h]

/-- The step while a command runs. -/
theorem step_running {s : State} (h : paramsOk s.params = true) (hp : s.point.isSome = true) :
    step s = .next (settle s.inputs s) := by
  obtain ⟨p, hp⟩ := Option.isSome_iff_exists.mp hp
  simp [step, fetch, h, hp, runCommand]

/-- The step with nothing to take. -/
theorem step_waiting {s : State} (h : paramsOk s.params = true) (hp : s.point = none) (hi : s.inputs = []) :
    step s = .next s := by
  simp [step, fetch, h, hp, hi]

/-- The step with an event to take and no command running. -/
theorem step_taking {s : State} (h : paramsOk s.params = true) (hp : s.point = none) {x : Input} {rest : List Input}
    (hi : s.inputs = x :: rest) :
    step s = match takeInput x (withInputs rest s) with
      | .run i t => exec i t
      | .state t => .next t
      | .badTables => .refused .layoutTable := by
  have hf : fetch s = takeInput x (withInputs rest s) := by simp [fetch, h, hp, hi, withInputs]
  cases e : takeInput x (withInputs rest s) <;> simp [step, hf, e]

/-- What an event does where no command runs: only a command word that is accepted runs anything. -/
theorem takeInput_cases (x : Input) (s : State) :
    (∃ cw, x = .command cw ∧ cmdReady s = true ∧ takeInput x s = .run (decode cw) (acceptCommand cw s)) ∨
      (∃ cw, x = .command cw ∧ cmdReady s = false ∧ takeInput x s = .state s) ∨
      ((∀ cw, x ≠ .command cw) ∧ takeInput x s = .state (react x s)) := by
  cases x with
  | command cw =>
    cases h : cmdReady s
    · exact .inr (.inl ⟨cw, rfl, rfl, by simp [takeInput, h]⟩)
    · exact .inl ⟨cw, rfl, rfl, by simp [takeInput, h]⟩
  | take => exact .inr (.inr ⟨by simp, rfl⟩)
  | bus r => exact .inr (.inr ⟨by simp, rfl⟩)
  | time t => exact .inr (.inr ⟨by simp, rfl⟩)
  | delayDone => exact .inr (.inr ⟨by simp, rfl⟩)
  | late a => exact .inr (.inr ⟨by simp, rfl⟩)
  | reset => exact .inr (.inr ⟨by simp, rfl⟩)

/-- The start of each command: the state a command runs from (R97 to R134). -/
def startOf (i : Instr) (s : State) : State :=
  match i with
  | .init => startInit s
  | .writeReg addr len arg => startWriteReg addr len arg s
  | .readReg addr len => startReadReg addr len s
  | .cfgMode md oscpd chcon refsel negbuf chop => startCfgMode md oscpd chcon refsel negbuf chop .config s
  | .cfgChannel ch rn pol => startCfgChannel ch rn pol .config s
  | .cfgFilter sf => startCfgFilter sf .config s
  | .cfgIo p1dir p2dir => startCfgIo p1dir p2dir .config s
  | .calibrate timeout => startCalibrate timeout s
  | .readConv => startReadConv s
  | .probe => startProbe s
  | .selectW addr => startWriteReg addr 0#3 0#32 s
  | .selectR addr => startReadReg addr 0#3 s
  | .readStatus => startReadReg 0#4 1#3 s
  | .readMode => startReadReg 1#4 1#3 s
  | .readControl => startReadReg 2#4 1#3 s
  | .readId => startReadReg 15#4 1#3 s
  | .illegalOp0 => startIllegal s
  | .illegalOpB => startIllegal s
  | .illegalOpCF _ => startIllegal s
  | .illegalWriteRegLen57 _ => startIllegal s
  | .illegalWriteRegLen67 _ => startIllegal s
  | .illegalReadRegLen57 _ => startIllegal s
  | .illegalReadRegLen67 _ => startIllegal s

/-- Every command starts and runs; none faults and none is refused. -/
theorem exec_eq (i : Instr) (s : State) : exec i s = .next (runCommand (startOf i s)) := by
  cases i <;> rfl

end Sys2Proof.Machine
end

