-- ==== Sys2Proof/Tests/Slice0.lean ====
section
/-! SUPPORT. The model's own tests: the checks of WellFormed, every constructor's decoding from a word written out from
spec/30_encoding.md, one-command runs from spec/95_test_vectors.md, and for every statement with hypotheses a state that meets
them. -/

namespace Sys2Proof.Tests

open Sys2Proof Sys2Proof.Machine Sys2Proof.Safety

/-! ### Helpers -/

/-- The vectors' parameters: the defaults of R6, with the values that spec/95_test_vectors.md assumes for the OPEN ones. -/
def vectorParams : Params :=
  { commLayout := .doc, modeLayout := ModeLayout.default, controlLayout := ControlLayout.default, ioLayout := IoLayout.default
    calHardLimitMs := 1000#32, pollDelayMs := 0#32, busTimeoutMs := 50#32, deviceId := 0x7#4, csActiveLow := true
    initP1dir := true, initP2dir := false, initFilter := 0x45#8, initCh := 0#4, initRn := 7#3, initPol := true
    initOscpd := false, initChcon := true, initRefsel := false, initNegbuf := false, initChop := true }

/-- A state just after reset with the vectors' parameters and the given events to come. -/
def blockWith (inputs : List Input) : State := { State.reset with params := vectorParams, inputs := inputs }

/-- The same with the mode image of the calibration vectors. -/
def calBlock (inputs : List Input) : State := { blockWith inputs with imgMode := 0x92#8 }

/-- A block in the middle of a READ_MODE's data phase. -/
def midRead (inputs : List Input) : State :=
  { blockWith inputs with
    busy := true, curCw := 0x113#64, cs := true, imgComm := 0x13#8
    point := some (.dataPhase ⟨1#4, .read, 1, []⟩ .rawRead) }

/-- The next state, if there is one. -/
def nextOf (o : Host.Outcome State Fault Refusal) : Option State :=
  match o with
  | .next s => some s
  | .fault _ => none
  | .refused _ => none

/-- Some observation of the next state. -/
def after {α : Type} (f : State → α) (o : Host.Outcome State Fault Refusal) : Option α := (nextOf o).map f

/-- The response and the command byte image. -/
def response (s : State) : RspStatus × U32 × Byte × Bool := (s.rspStatus, s.rspData, s.imgComm, s.busy)

/-- The images that back an address, and `img.STATUS`. -/
def images (s : State) : List Byte := [s.imgStatus, s.imgMode, s.imgControl, s.imgFilter, s.imgIo]

/-- An ok answer that carries no byte that matters. -/
def ok : Input := .bus (.ok 0#32)

/-- A read's two answers, with the byte received. -/
def poll (b : U32) : List Input := [ok, .bus (.ok b)]

/-! ### Well-formed terms -/

theorem test_wf_refuses_write_of_no_bytes : (Instr.writeReg 3#4 0#3 0#32).wf = false := by decide
theorem test_wf_refuses_write_of_five_bytes : (Instr.writeReg 3#4 5#3 0#32).wf = false := by decide
theorem test_wf_refuses_bytes_beyond_length : (Instr.writeReg 3#4 1#3 0x3412#32).wf = false := by decide
theorem test_wf_refuses_read_of_no_bytes : (Instr.readReg 3#4 0#3).wf = false := by decide
theorem test_wf_refuses_read_of_seven_bytes : (Instr.readReg 3#4 7#3).wf = false := by decide
theorem test_wf_refuses_unnamed_id_read : (Instr.readReg 15#4 1#3).wf = false := by decide
theorem test_wf_refuses_second_name_of_length_seven :
    (Instr.illegalWriteRegLen67 true).wf = false ∧ (Instr.illegalReadRegLen67 true).wf = false := by decide

/-! ### Decoding: words from R57, R58, R74 and the decode vectors -/

theorem test_decode_system : decode 0x0000000000000001#64 = .init ∧ decode 0xFFFF000000007FF1#64 = .init := by decide
theorem test_decode_write :
    decode 0x0000000000450132#64 = .writeReg 3#4 1#3 0x45#32 ∧
      decode 0x0000000034120252#64 = .writeReg 5#4 2#3 0x3412#32 := by decide
theorem test_decode_read :
    decode 0x0000000000000453#64 = .readReg 5#4 4#3 ∧ decode 0x0000000000000173#64 = .readReg 7#4 1#3 := by decide
theorem test_decode_select : decode 0x0000000000000002#64 = .selectW 0#4 ∧ decode 0x0000000000000043#64 = .selectR 4#4 := by
  decide
theorem test_decode_named_reads :
    decode 0x0000000000000103#64 = .readStatus ∧ decode 0x0000000000000113#64 = .readMode ∧
      decode 0x0000000000000123#64 = .readControl ∧ decode 0x00000000000001F3#64 = .readId := by decide
theorem test_decode_mode :
    decode 0x0000000012020004#64 = .cfgMode 2#3 false true false false true ∧
      decode 0x0000000000010004#64 = .cfgMode 1#3 false false false false false := by decide
theorem test_decode_mode_each_flag :
    decode 0x0000000001000004#64 = .cfgMode 0#3 true false false false false ∧
      decode 0x0000000004000004#64 = .cfgMode 0#3 false false true false false ∧
      decode 0x0000000008000004#64 = .cfgMode 0#3 false false false true false := by decide
theorem test_decode_channel :
    decode 0x0000000107030005#64 = .cfgChannel 3#4 7#3 true ∧ decode 0x00000001000F0005#64 = .cfgChannel 15#4 0#3 true := by
  decide
theorem test_decode_filter : decode 0x0000000000450006#64 = .cfgFilter 0x45#8 := by decide
theorem test_decode_io : decode 0x0000000000010007#64 = .cfgIo true false ∧ decode 0x0000FFFFFFFD0007#64 = .cfgIo true false := by
  decide
theorem test_decode_calibrate :
    decode 0x0000000001F40008#64 = .calibrate 500#32 ∧ decode 0x0000FFFFFFFF0008#64 = .calibrate 0xFFFFFFFF#32 := by decide
theorem test_decode_acquisition :
    decode 0x0000000000000F79#64 = .readConv ∧ decode 0x000000000000000A#64 = .probe := by decide
theorem test_decode_reserved_operations :
    decode 0x0000000000000000#64 = .illegalOp0 ∧ decode 0x000000000000000B#64 = .illegalOpB ∧
      decode 0x000000000000000C#64 = .illegalOpCF 0#2 ∧ decode 0x000000000000000F#64 = .illegalOpCF 3#2 := by decide
theorem test_decode_illegal_write_lengths :
    decode 0x0000000000000532#64 = .illegalWriteRegLen57 false ∧ decode 0x0000000000000732#64 = .illegalWriteRegLen57 true ∧
      decode 0x0000000000000632#64 = .illegalWriteRegLen67 false := by decide
theorem test_decode_illegal_read_lengths :
    decode 0x0000000000000513#64 = .illegalReadRegLen57 false ∧ decode 0x0000000000000713#64 = .illegalReadRegLen57 true ∧
      decode 0x0000000000000613#64 = .illegalReadRegLen67 false := by decide

/-! ### The register-image encoder: the vectors of section 2 -/

theorem test_field_write_drops_high_bits : setField 0x00#8 ModeLayout.default.md 9#8 = 0x01#8 := by decide
theorem test_field_write_keeps_other_bits : setField 0xFF#8 ControlLayout.default.ch 0#8 = 0x0F#8 := by decide
theorem test_build_mode : buildMode ModeLayout.default 4#3 false false true false false = 0x24#8 := by decide
theorem test_build_control : buildControl ControlLayout.default 0xA#4 5#3 false = 0xA5#8 := by decide
theorem test_build_io : buildIo IoLayout.default false true = 0x20#8 := by decide
theorem test_with_md_keeps_flags : withMd ModeLayout.default 0xFF#8 1#3 = 0xF9#8 := by decide
theorem test_comm_byte : commByte .doc 15#4 true true = 0xF3#8 ∧ commByte .datasheet 4#4 true true = 0xC4#8 := by decide

/-! ### One command each: the vectors of sections 4 to 8 -/

/-- TX-2. -/
theorem test_write_reg_two_bytes :
    after (fun s => (response s, s.trace)) (exec (.writeReg 5#4 2#3 0x3412#32) (blockWith [ok, ok])) =
      some ((.ok, 0#32, 0x51#8, false),
        [.setCS true, .busOut [0x50#8] 50#32, .busOut [0x12#8, 0x34#8] 50#32, .setCS false, .respond .ok 0#32]) := by decide

/-- TX-13. -/
theorem test_write_reg_data_failure :
    after response (exec (.writeReg 2#4 1#3 0x3F#32) (blockWith [ok, .bus .err])) = some (.busError, 0#32, 0x21#8, false) := by
  decide

/-- TX-4. -/
theorem test_read_reg_four_bytes :
    after (fun s => (response s, images s)) (exec (.readReg 5#4 4#3) (blockWith (poll 0x04030201#32))) =
      some ((.ok, 0x04030201#32, 0x53#8, false), [0x00#8, 0x00#8, 0x00#8, 0x00#8, 0x00#8]) := by decide

/-- TX-10. -/
theorem test_read_reg_two_bytes_leaves_image :
    after (fun s => (response s, s.imgMode)) (exec (.readReg 1#4 2#3) (blockWith (poll 0xBBAA#32))) =
      some ((.ok, 0xBBAA#32, 0x13#8, false), 0x00#8) := by decide

/-- TX-3. -/
theorem test_select_w :
    after (fun s => (response s, s.trace)) (exec (.selectW 0#4) (blockWith [ok])) =
      some ((.ok, 0#32, 0x01#8, false), [.setCS true, .busOut [0x00#8] 50#32, .setCS false, .respond .ok 0#32]) := by decide

/-- TX-11. -/
theorem test_select_r :
    after (fun s => (response s, s.trace)) (exec (.selectR 4#4) (blockWith [ok])) =
      some ((.ok, 0#32, 0x43#8, false), [.setCS true, .busOut [0x42#8] 50#32, .setCS false, .respond .ok 0#32]) := by decide

/-- TX-6. -/
theorem test_read_status :
    after (fun s => (response s, images s)) (exec .readStatus (blockWith (poll 0x80#32))) =
      some ((.ok, 0x80#32, 0x03#8, false), [0x80#8, 0x00#8, 0x00#8, 0x00#8, 0x00#8]) := by decide

/-- TX-8. -/
theorem test_read_mode_data_failure :
    after (fun s => (response s, s.imgMode)) (exec .readMode (calBlock [ok, .bus .err])) =
      some ((.busError, 0#32, 0x13#8, false), 0x92#8) := by decide

/-- TX-7. -/
theorem test_read_control_address_failure :
    after (fun s => (response s, s.trace)) (exec .readControl (blockWith [.bus .err])) =
      some ((.busError, 0#32, 0x23#8, false), [.setCS true, .busOut [0x22#8] 50#32, .setCS false, .respond .busError 0#32]) := by
  decide

/-- READ_ID is a raw read: no presence check, no image (R73, R98). -/
theorem test_read_id :
    after (fun s => (response s, images s)) (exec .readId (blockWith (poll 0x05#32))) =
      some ((.ok, 0x05#32, 0xF3#8, false), [0x00#8, 0x00#8, 0x00#8, 0x00#8, 0x00#8]) := by decide

/-- CFG-1. -/
theorem test_cfg_mode :
    after (fun s => (response s, s.imgMode, s.trace)) (exec (.cfgMode 2#3 false true false false true) (blockWith [ok, ok])) =
      some ((.ok, 0#32, 0x11#8, false), 0x92#8,
        [.setCS true, .busOut [0x10#8] 50#32, .busOut [0x92#8] 50#32, .setCS false, .respond .ok 0#32]) := by decide

/-- R105's example. -/
theorem test_cfg_channel :
    after (fun s => (response s, s.imgControl)) (exec (.cfgChannel 3#4 7#3 true) (blockWith [ok, ok])) =
      some ((.ok, 0#32, 0x21#8, false), 0x3F#8) := by decide

/-- P4, command 4: the image is kept although the data phase fails. -/
theorem test_cfg_filter_failure :
    after (fun s => (response s, s.imgFilter)) (exec (.cfgFilter 0x45#8) (blockWith [ok, .bus .err])) =
      some ((.busError, 0#32, 0x31#8, false), 0x45#8) := by decide

/-- P5, command 3. -/
theorem test_cfg_io :
    after (fun s => (response s, s.imgIo)) (exec (.cfgIo false true) (blockWith [ok, ok])) =
      some ((.ok, 0#32, 0x71#8, false), 0x20#8) := by decide

/-- INIT-1. -/
theorem test_init :
    after (fun s => (response s, images s)) (exec .init (blockWith [ok, ok, ok, ok, ok, ok, ok, ok])) =
      some ((.ok, 0#32, 0x11#8, false), [0x00#8, 0x92#8, 0x0F#8, 0x45#8, 0x10#8]) := by decide

/-- INIT-2. -/
theorem test_init_stops :
    after (fun s => (response s, images s)) (exec .init (blockWith [ok, ok, ok, ok, ok, .bus .err])) =
      some ((.busError, 0#32, 0x21#8, false), [0x00#8, 0x00#8, 0x0F#8, 0x45#8, 0x10#8]) := by decide

/-- CAL-1. -/
theorem test_calibrate :
    after (fun s => (s.rspStatus, s.calState, s.imgMode, s.imgComm, s.pollStart, s.pollLimit))
        (exec (.calibrate 500#32) (calBlock ([ok, ok, .time 0#32] ++ poll 0x91#32 ++ [ok, ok, .time 5#32] ++ poll 0x91#32))) =
      some (.ok, .done, 0x91#8, 0x13#8, 5#32, 500#32) := by decide

/-- CAL-8: elapsed time across the wrap of the clock. -/
theorem test_calibrate_times_out_across_wrap :
    after (fun s => (s.rspStatus, s.calState, s.pollLimit, s.inputs))
        (exec (.calibrate 100#32) (calBlock ([ok, ok, .time 0xFFFFFFF0#32] ++ poll 0x94#32 ++ [.time 0x10#32] ++ poll 0x94#32 ++
          [.time 0x60#32]))) =
      some (.timeout, .timedOut, 100#32, []) := by decide

/-- ACQ-1. -/
theorem test_read_conv :
    after (fun s => (response s, s.trace)) (exec .readConv (blockWith (poll 0x0180#32))) =
      some ((.ok, 0x8001#32, 0x43#8, false),
        [.setCS true, .busOut [0x42#8] 50#32, .busIn 2 50#32, .setCS false, .respond .ok 0x8001#32]) := by decide

/-- PRB-1. -/
theorem test_probe_present :
    after response (exec .probe (blockWith (poll 0x75#32))) = some (.ok, 0x75#32, 0xF3#8, false) := by decide

/-- PRB-5. -/
theorem test_probe_nibbles_swapped :
    after response (exec .probe (blockWith (poll 0xF7#32))) = some (.notPresent, 0xF7#32, 0xF3#8, false) := by decide

/-- DEC-1: an illegal word emits no event but its response. -/
theorem test_illegal_operation :
    after (fun s => (response s, s.trace)) (exec .illegalOp0 (blockWith [])) =
      some ((.illegal, 0#32, 0x00#8, false), [.respond .illegal 0#32]) := by decide

/-- DEC-6. -/
theorem test_illegal_length :
    after (fun s => (response s, s.trace)) (exec (.illegalReadRegLen57 false) (blockWith [])) =
      some ((.illegal, 0#32, 0x00#8, false), [.respond .illegal 0#32]) := by decide

/-! ### The handshake, reset and the step -/

/-- PROBE as a command word: accepted, decoded, run. -/
theorem test_step_runs_command :
    after (fun s => (response s, s.curCw)) (step (blockWith (.command 0x000000000000000A#64 :: poll 0x75#32))) =
      some ((.ok, 0x75#32, 0xF3#8, false), 0x000000000000000A#64) := by decide

/-- HS-1: a command while a response is pending has no effect. -/
theorem test_command_ignored_while_response_pending :
    step { blockWith [.command 0x1#64] with rspValid := true } = .next { blockWith [] with rspValid := true } := rfl

/-- HS-2: the take clears `rsp_valid` alone. -/
theorem test_take :
    step { blockWith [.take] with rspValid := true, rspStatus := .busError } =
      .next { blockWith [] with rspStatus := .busError } := rfl

/-- RST-2: reset in the middle of a read, whose answer comes later. -/
theorem test_reset_in_a_frame :
    step (midRead [.reset, .late (.bus (.ok 0#32))]) = .next (blockWith [.late (.bus (.ok 0#32))]) := rfl

/-- R159: the late answer 0x05 is not taken for the answer to a later PROBE. -/
theorem test_late_answer_ignored_by_later_command :
    after response (exec .probe (blockWith [ok, .late (.bus (.ok 0x05#32)), .bus (.ok 0x75#32)])) =
      some (.ok, 0x75#32, 0xF3#8, false) := by decide

/-- A table word runs as the first instruction after reset. -/
theorem test_first_instruction_after_reset :
    after (fun s => (s.rspStatus, s.curCw)) (step (State.reset.withFetchWord 8 0xB)) = some (.illegal, 0xB#64) := by decide

/-- An answer that comes in a later step is taken there (R17). -/
theorem test_waiting_command_goes_on :
    after response (step (midRead [.bus (.ok 0x91#32)])) = some (.ok, 0x91#32, 0x13#8, false) := by decide

/-! ### Witnesses: states and operands that meet the hypotheses of each statement

Each theorem is named after its statement; a statement without hypotheses has none. -/

theorem witness_EncodedCommandsDecodeBack :
    (Instr.writeReg 3#4 1#3 0xFF#32).wf = true ∧ (Instr.writeReg 15#4 4#3 0xFFFFFFFF#32).wf = true ∧
      (Instr.readReg 3#4 1#3).wf = true ∧ (Instr.readReg 0#4 4#3).wf = true ∧
      (Instr.cfgMode 7#3 true true true true true).wf = true ∧ (Instr.illegalReadRegLen67 false).wf = true := by decide

theorem witness_IgnoredBitsDoNotMatter :
    0xFFFF00000000FFF0#64 &&& usedBits (opField 0x8#64) (lenField 0x8#64) = 0#64 ∧
      0xFFFFFFFFFF00F800#64 &&& usedBits (opField 0x132#64) (lenField 0x132#64) = 0#64 := by decide

theorem witness_WordsRunTheirOperation :
    (∀ k : BitVec 4, (k.setWidth 64 : CommandWord).extractLsb' 0 4 = k) ∧ 0xB#4 ≤ 0xF#4 := by decide

/-- A table with fields at other positions, as R81 admits. -/
def movedParams : Params :=
  { vectorParams with
    ioLayout := { p1dir := ⟨0, 0⟩, p2dir := ⟨7, 7⟩, reserved := 0x7E#8 }
    controlLayout := { rn := ⟨7, 5⟩, pol := ⟨4, 4⟩, ch := ⟨3, 0⟩, reserved := 0x00#8 } }

theorem witness_BuiltImagesHaveReservedZero :
    paramsOk vectorParams = true ∧ paramsOk movedParams = true ∧ vectorParams.modeLayout.reserved = 0x00#8 := by decide

theorem witness_BuiltFieldsReadBack : paramsOk vectorParams = true ∧ paramsOk movedParams = true := by decide

theorem witness_MergedAndFunctionalViewsAgree :
    wholeByteField.lo ≤ wholeByteField.hi ∧ wholeByteField.hi ≤ 7 ∧ (⟨3, 3⟩ : Sys2Proof.Field).lo ≤ (⟨3, 3⟩ : Sys2Proof.Field).hi := by
  decide

theorem witness_SetBitReplacesOneBit : (7 : Nat) ≤ 7 ∧ (0 : Nat) ≤ 7 := by decide

theorem witness_StepRunsAcceptedCommand :
    let s := blockWith [.command 0xA#64, ok]
    paramsOk s.params = true ∧ s.point = none ∧ s.busy = false ∧ s.rspValid = false ∧ s.inputs = .command 0xA#64 :: [ok] := by
  decide

theorem witness_TableWordRunsNext : paramsOk (blockWith []).params = true ∧ decodeTableWord 8 0x0A = some .probe := by decide

theorem witness_WrongTimeEventsAreIgnored :
    (let s := { blockWith [.command 0x1#64] with rspValid := true }
     paramsOk s.params = true ∧ s.point = none ∧ (s.busy = true ∨ s.rspValid = true) ∧ s.inputs = .command 0x1#64 :: []) ∧
      (let s := blockWith [.take]
       paramsOk s.params = true ∧ s.point = none ∧ s.rspValid = false ∧ s.inputs = .take :: []) := by decide

theorem witness_WrongTimeEventsAreIgnored_running :
    paramsOk (midRead []).params = true ∧ (midRead []).point.isSome = true ∧
      ∃ u, step { midRead [] with inputs := [.time 3#32] } = .next u ∧ u.point.isSome = true ∧ u.rspValid = false :=
  ⟨rfl, rfl, _, rfl, rfl, rfl⟩

theorem witness_TakeClearsOnlyValid :
    let s := { blockWith [.take] with rspValid := true }
    paramsOk s.params = true ∧ s.point = none ∧ s.rspValid = true ∧ s.inputs = .take :: [] := by decide

theorem witness_TakeClearsOnlyValid_running :
    noReset (blockWith [ok]).inputs ∧ ∃ u, exec .probe (blockWith [ok]) = .next u ∧ u.point.isSome = true :=
  ⟨by unfold noReset; decide, _, rfl, rfl⟩

theorem witness_TakeClearsOnlyValid_idle :
    (blockWith [.time 3#32]).point = none ∧ (blockWith [.time 3#32]).inputs = .time 3#32 :: [] ∧
      Input.time 3#32 ≠ .reset ∧ ∃ u, step (blockWith [.time 3#32]) = .next u :=
  ⟨rfl, rfl, by decide, _, rfl⟩

theorem witness_ResetAtAnyTime :
    paramsOk (blockWith []).params = true ∧ (blockWith [.reset]).inputs = .reset :: [] ∧
      (midRead [.reset]).inputs = .reset :: [] := by decide

theorem witness_ResetAbandonsRunningCommand :
    ∃ u, exec .readMode { blockWith [] with inputs := [ok] } = .next u ∧ u.point.isSome = true := ⟨_, rfl, rfl⟩

theorem witness_LateAnswersAreIgnored :
    paramsOk (blockWith []).params = true ∧ (blockWith [ok]).point = none ∧ (blockWith [ok]).inputs = .bus (.ok 0#32) :: [] ∧
      (blockWith [.time 1#32]).inputs = .time 1#32 :: [] ∧ (blockWith [.delayDone]).inputs = .delayDone :: [] ∧
      (blockWith [.late (.bus .err)]).inputs = .late (.bus .err) :: [] := by decide

theorem witness_LateAnswersAreIgnored_running :
    (∃ u, exec .probe { blockWith [] with inputs := [ok] } = .next u ∧ u.point.isSome = true) ∧
      paramsOk (midRead []).params = true ∧ (midRead []).point.isSome = true ∧
      ∃ u, step { midRead [] with inputs := [] } = .next u ∧ u.point.isSome = true :=
  ⟨⟨_, rfl, rfl⟩, rfl, rfl, _, rfl, rfl⟩

theorem witness_UnansweredCommandHangs :
    paramsOk (blockWith [ok]).params = true ∧ ∃ u, exec .probe (blockWith [ok]) = .next u ∧ u.point.isSome = true :=
  ⟨rfl, _, rfl, rfl⟩

theorem witness_AnswersMayArriveInPieces :
    paramsOk (blockWith []).params = true ∧
      ∃ u, exec (.calibrate 5#32) { blockWith [] with inputs := [ok, ok, .time 0#32] } = .next u ∧ u.point.isSome = true :=
  ⟨rfl, _, rfl, rfl⟩

theorem witness_StepKeepsInvariant : Inv (midRead [ok]) ∧ ∃ t, step (midRead [ok]) = .next t :=
  ⟨⟨⟨rfl, fun _ => rfl, rfl⟩, rfl, rfl, ⟨⟨rfl, by decide, rfl⟩, by decide⟩, trivial, by unfold LimitOk; decide⟩, _, rfl⟩

theorem witness_EveryStepAnswers :
    paramsOk vectorParams = true ∧
      paramsOk { vectorParams with ioLayout := { p1dir := ⟨4, 4⟩, p2dir := ⟨4, 4⟩, reserved := 0xEF#8 } } = false := by decide

theorem witness_WriteRegOutcome :
    (1 ≤ (1#3).toNat ∧ (1#3).toNat ≤ 4) ∧ (1 ≤ (4#3).toNat ∧ (4#3).toNat ≤ 4) ∧ (0#3).toNat ≤ 4 ∧ 5 ≤ (5#3).toNat ∧
      5 ≤ (7#3).toNat ∧ (blockWith [ok, .bus .err]).inputs = .bus (.ok 0#32) :: .bus .err :: [] ∧
      (blockWith [ok]).inputs = .bus (.ok 0#32) :: [] ∧ (blockWith [.bus .err]).inputs = .bus .err :: [] := by decide

theorem witness_ReadRegOutcome :
    (1 ≤ (1#3).toNat ∧ (1#3).toNat ≤ 4) ∧ (1 ≤ (4#3).toNat ∧ (4#3).toNat ≤ 4) ∧ (0#3).toNat ≤ 4 ∧ 5 ≤ (5#3).toNat ∧
      5 ≤ (7#3).toNat ∧ (blockWith (poll 7#32)).inputs = .bus (.ok 0#32) :: .bus (.ok 7#32) :: [] ∧
      (blockWith [ok, .bus .err]).inputs = .bus (.ok 0#32) :: .bus .err :: [] ∧
      (blockWith [ok]).inputs = .bus (.ok 0#32) :: [] ∧ (blockWith [.bus .err]).inputs = .bus .err :: [] := by decide

theorem witness_SelectOutcome :
    (blockWith [ok]).inputs = .bus (.ok 0#32) :: [] ∧ (blockWith [.bus .err]).inputs = .bus .err :: [] := by decide

theorem witness_NamedReadOutcome :
    (blockWith (poll 7#32)).inputs = .bus (.ok 0#32) :: .bus (.ok 7#32) :: [] ∧
      (blockWith [ok, .bus .err]).inputs = .bus (.ok 0#32) :: .bus .err :: [] ∧
      (blockWith [.bus .err]).inputs = .bus .err :: [] := by decide

theorem witness_IllegalOutcome :
    (0x10#64).toNat % 16 = 0 ∧ 11 ≤ (0xB#64).toNat % 16 ∧ 11 ≤ (0xF#64).toNat % 16 ∧
      ((0x532#64).toNat % 16 = 2 ∧ 5 ≤ (0x532#64).toNat / 256 % 8) ∧
      ((0x713#64).toNat % 16 = 3 ∧ 5 ≤ (0x713#64).toNat / 256 % 8) ∧ isIllegalRow .illegalOp0 = true := by decide

theorem witness_ConfigurationOutcome :
    (blockWith []).inputs = [] ∧ (blockWith [ok, .bus .err]).inputs = .bus (.ok 0#32) :: .bus .err :: [] ∧
      (blockWith [.bus .err]).inputs = .bus .err :: [] := by decide

theorem witness_InitOutcome :
    (blockWith [ok, ok, ok, ok, ok, ok, ok, ok]).inputs = (List.replicate 8 0#32).map (fun l => .bus (.ok l)) ++ [] ∧
      (blockWith [.bus .err]).inputs = ([] : List U32).map (fun l => .bus (.ok l)) ++ .bus .err :: [] ∧
      (blockWith [ok, ok, ok, ok, ok, ok, ok, .bus .err]).inputs =
        (List.replicate 7 0#32).map (fun l => .bus (.ok l)) ++ .bus .err :: [] := by decide

theorem witness_ReadConvOutcome :
    (blockWith (poll 7#32)).inputs = .bus (.ok 0#32) :: .bus (.ok 7#32) :: [] ∧
      (blockWith [ok, .bus .err]).inputs = .bus (.ok 0#32) :: .bus .err :: [] ∧
      (blockWith [.bus .err]).inputs = .bus .err :: [] := by decide

theorem witness_ProbeOutcome :
    (blockWith (poll 0x75#32)).inputs = .bus (.ok 0#32) :: .bus (.ok 0x75#32) :: [] ∧
      (blockWith [ok, .bus .err]).inputs = .bus (.ok 0#32) :: .bus .err :: [] ∧
      (blockWith [.bus .err]).inputs = .bus .err :: [] := by decide

/-- One iteration that goes on: mode code 4 read, one millisecond later. -/
def waitRound (t : U32) : PollRound := { addrLanes := 0#32, lanes := 0x94#32, time := t }

/-- The two phases' events up to their last reads, one iteration in each. -/
def zeroPhase : List Input := phaseInputs vectorParams 0#32 0#32 10#32 [waitRound 11#32]
def fullPhase : List Input := phaseInputs vectorParams 0#32 0#32 13#32 [waitRound 14#32]

theorem waitRound_goesOn :
    roundsGoOn vectorParams 10#32 (effectiveLimit vectorParams 100#32) [waitRound 11#32] ∧
      roundsGoOn vectorParams 13#32 (effectiveLimit vectorParams 100#32) [waitRound 14#32] ∧
      readsIdle vectorParams 0x91#32 ∧ notIdle vectorParams 0x94#32 := by
  unfold roundsGoOn readsIdle notIdle expiredAt; decide

theorem witness_CalibrateSucceeds :
    (calBlock (zeroPhase ++ (readAnswers 0#32 0x91#32 ++ (fullPhase ++ (readAnswers 0#32 0x91#32 ++ []))))).inputs =
        phaseInputs vectorParams 0#32 0#32 10#32 [waitRound 11#32] ++ (readAnswers 0#32 0x91#32 ++
          (phaseInputs vectorParams 0#32 0#32 13#32 [waitRound 14#32] ++ (readAnswers 0#32 0x91#32 ++ []))) ∧
      roundsGoOn vectorParams 10#32 (effectiveLimit vectorParams 100#32) [waitRound 11#32] ∧
      readsIdle vectorParams 0x91#32 ∧
      roundsGoOn vectorParams 13#32 (effectiveLimit vectorParams 100#32) [waitRound 14#32] :=
  ⟨rfl, waitRound_goesOn.1, waitRound_goesOn.2.2.1, waitRound_goesOn.2.1⟩

theorem witness_CalibrateReadCount :
    (calBlock (zeroPhase ++ (readAnswers 0#32 0x91#32 ++ (fullPhase ++ (readAnswers 0#32 0x91#32 ++ []))))).inputs =
        phaseInputs vectorParams 0#32 0#32 10#32 [waitRound 11#32] ++ (readAnswers 0#32 0x91#32 ++
          (phaseInputs vectorParams 0#32 0#32 13#32 [waitRound 14#32] ++ (readAnswers 0#32 0x91#32 ++ []))) ∧
      roundsGoOn vectorParams 10#32 (effectiveLimit vectorParams 100#32) [waitRound 11#32] ∧
      readsIdle vectorParams 0x91#32 ∧
      roundsGoOn vectorParams 13#32 (effectiveLimit vectorParams 100#32) [waitRound 14#32] := witness_CalibrateSucceeds

theorem witness_CalibrateTimesOutInZeroPhase :
    (calBlock (zeroPhase ++ (readAnswers 0#32 0x94#32 ++ [.time 110#32]))).inputs =
        phaseInputs vectorParams 0#32 0#32 10#32 [waitRound 11#32] ++ (readAnswers 0#32 0x94#32 ++ .time 110#32 :: []) ∧
      roundsGoOn vectorParams 10#32 (effectiveLimit vectorParams 100#32) [waitRound 11#32] ∧
      notIdle vectorParams 0x94#32 ∧ expiredAt 10#32 (effectiveLimit vectorParams 100#32) 110#32 :=
  ⟨rfl, waitRound_goesOn.1, waitRound_goesOn.2.2.2, by unfold expiredAt; decide⟩

theorem witness_CalibrateTimesOutInFullPhase :
    (calBlock (zeroPhase ++ (readAnswers 0#32 0x91#32 ++ (fullPhase ++ (readAnswers 0#32 0x94#32 ++ [.time 113#32]))))).inputs =
        phaseInputs vectorParams 0#32 0#32 10#32 [waitRound 11#32] ++ (readAnswers 0#32 0x91#32 ++
          (phaseInputs vectorParams 0#32 0#32 13#32 [waitRound 14#32] ++ (readAnswers 0#32 0x94#32 ++ .time 113#32 :: []))) ∧
      roundsGoOn vectorParams 10#32 (effectiveLimit vectorParams 100#32) [waitRound 11#32] ∧ readsIdle vectorParams 0x91#32 ∧
      roundsGoOn vectorParams 13#32 (effectiveLimit vectorParams 100#32) [waitRound 14#32] ∧ notIdle vectorParams 0x94#32 ∧
      expiredAt 13#32 (effectiveLimit vectorParams 100#32) 113#32 :=
  ⟨rfl, waitRound_goesOn.1, waitRound_goesOn.2.2.1, waitRound_goesOn.2.1, waitRound_goesOn.2.2.2, by unfold expiredAt; decide⟩

theorem witness_CalibrateStopsAtBusError :
    (calBlock [.bus .err]).inputs = .bus .err :: [] ∧ (calBlock [ok, .bus .err]).inputs = .bus (.ok 0#32) :: .bus .err :: [] ∧
      (calBlock (zeroPhase ++ [.bus .err])).inputs =
        phaseInputs vectorParams 0#32 0#32 10#32 [waitRound 11#32] ++ .bus .err :: [] ∧
      (calBlock (zeroPhase ++ [ok, .bus .err])).inputs =
        phaseInputs vectorParams 0#32 0#32 10#32 [waitRound 11#32] ++ .bus (.ok 0#32) :: .bus .err :: [] ∧
      roundsGoOn vectorParams 10#32 (effectiveLimit vectorParams 100#32) [waitRound 11#32] :=
  ⟨rfl, rfl, rfl, rfl, waitRound_goesOn.1⟩

/-- The tails of the four clauses: an error in the request's two phases, and in a poll read's two phases. -/
def errorTails : List (List Input) := [[.bus .err], [ok, .bus .err], fullPhase ++ [.bus .err], fullPhase ++ [ok, .bus .err]]

theorem witness_CalibrateStopsAtBusErrorInFullPhase :
    (∀ tail ∈ errorTails, (calBlock (zeroPhase ++ (readAnswers 0#32 0x91#32 ++ tail))).inputs =
        phaseInputs vectorParams 0#32 0#32 10#32 [waitRound 11#32] ++ (readAnswers 0#32 0x91#32 ++ tail)) ∧
      roundsGoOn vectorParams 10#32 (effectiveLimit vectorParams 100#32) [waitRound 11#32] ∧ readsIdle vectorParams 0x91#32 ∧
      roundsGoOn vectorParams 13#32 (effectiveLimit vectorParams 100#32) [waitRound 14#32] :=
  ⟨fun _ _ => rfl, waitRound_goesOn.1, waitRound_goesOn.2.2.1, waitRound_goesOn.2.1⟩

theorem witness_ZeroLimitReadsOnce :
    (∀ tail, (calBlock (phaseInputs vectorParams 0#32 0#32 7#32 [] ++ tail)).inputs =
        phaseInputs vectorParams 0#32 0#32 7#32 [] ++ tail) ∧
      notIdle vectorParams 0x94#32 ∧ readsIdle vectorParams 0x91#32 ∧ (0#32 = 0#32 ∨ vectorParams.calHardLimitMs = 0#32) ∧
      ({ vectorParams with calHardLimitMs := 0#32 } : Params).calHardLimitMs = 0#32 :=
  ⟨fun _ => rfl, waitRound_goesOn.2.2.2, waitRound_goesOn.2.2.1, .inl rfl, rfl⟩

theorem witness_PollLimitCorners : (500#32).toNat < (1000#32).toNat := by decide

/-- Limit 0 and limit 1: four and six rounds of a chip that never reports idle. -/
theorem witness_CalibrateEndsOnAdvancingClock :
    2 * ((effectiveLimit vectorParams 0#32).toNat + 2) ≤ (List.replicate 4 (0#32, 0x94#32)).length ∧
      2 * ((effectiveLimit vectorParams 1#32).toNat + 2) ≤ (List.replicate 6 (0#32, 0x94#32)).length ∧
      (calBlock (clockedInputs 0xFFFFFFFF#32 (List.replicate 6 (0#32, 0x94#32)))).inputs =
        clockedInputs 0xFFFFFFFF#32 (List.replicate 6 (0#32, 0x94#32)) := by decide

/-- A bus that answers ok with a mode code that is never idle, and a clock that advances at each sample. -/
def tickingDraws : Draws := { bus := fun _ => .ok 0x94#32, time := fun j => BitVec.ofNat 32 j }

theorem witness_CalibrateEndsWhenSamplesExpire :
    paramsOk (calBlock []).params = true ∧ (calBlock []).inputs = [] ∧
      ∀ m, ∃ j, m < j ∧ j ≤ m + 1 ∧
        expiredAt (tickingDraws.time m) (effectiveLimit (calBlock []).params 1#32) (tickingDraws.time j) := by
  refine ⟨rfl, rfl, fun m => ⟨m + 1, by omega, by omega, ?_⟩⟩
  have h : (effectiveLimit (calBlock []).params 1#32).toNat = 1 := rfl
  simp only [expiredAt, h, tickingDraws, BitVec.toNat_ofNat]
  omega

theorem witness_CalibrateEndsConsistently :
    noReset (calBlock [.bus .err]).inputs ∧
      ∃ u, exec (.calibrate 5#32) (calBlock [.bus .err]) = .next u ∧ u.point = none :=
  ⟨by unfold noReset; decide, _, rfl, rfl⟩

theorem witness_EachCommandReportsAnAllowedStatus :
    Instr.probe.wf = true ∧ noReset (blockWith (poll 5#32)).inputs ∧
      ∃ u, exec .probe (blockWith (poll 5#32)) = .next u ∧ u.point = none :=
  ⟨rfl, by unfold noReset; decide, _, rfl, rfl⟩

/-- A command that ends and a command that waits, both without a reset and from a deasserted chip-select. -/
theorem witness_ended_and_waiting :
    (noReset (blockWith [.bus .err]).inputs ∧ (blockWith [.bus .err]).cs = false ∧
      ∃ u, exec .init (blockWith [.bus .err]) = .next u ∧ u.point = none) ∧
    (noReset (blockWith [ok]).inputs ∧ (blockWith [ok]).cs = false ∧
      ∃ u, exec .init (blockWith [ok]) = .next u ∧ u.point.isSome = true) :=
  ⟨⟨by unfold noReset; decide, rfl, _, rfl, rfl⟩, ⟨by unfold noReset; decide, rfl, _, rfl, rfl⟩⟩

theorem witness_ExactlyOneResponse :
    noReset (blockWith [.bus .err]).inputs ∧ ∃ u, exec .init (blockWith [.bus .err]) = .next u ∧ u.point = none :=
  ⟨witness_ended_and_waiting.1.1, witness_ended_and_waiting.1.2.2⟩

theorem witness_ChipSelectIsBalanced :
    noReset (blockWith [.bus .err]).inputs ∧ (blockWith [.bus .err]).cs = false ∧
      ∃ u, exec .init (blockWith [.bus .err]) = .next u ∧ u.point = none := witness_ended_and_waiting.1

theorem witness_FramesAreDisciplined :
    noReset (blockWith [ok]).inputs ∧ (blockWith [ok]).cs = false ∧
      ∃ u, exec .init (blockWith [ok]) = .next u ∧ u.point.isSome = true := witness_ended_and_waiting.2

theorem witness_OnlyCalibrateMovesCalibrationState :
    noReset (blockWith [.bus .err]).inputs ∧ (∃ u, exec .init (blockWith [.bus .err]) = .next u) ∧
      ∀ timeout, Instr.init ≠ .calibrate timeout :=
  ⟨witness_ended_and_waiting.1.1, ⟨_, rfl⟩, by intro timeout h; cases h⟩

theorem witness_ConfigurationNeverReads :
    onlyWrites .init = true ∧ ∃ u, exec .init (blockWith [ok]) = .next u := ⟨rfl, _, rfl⟩

theorem witness_OtherCommandsLeaveImages :
    leavesImages .readConv = true ∧ leavesImages (.readReg 1#4 2#3) = true ∧ leavesImages (.readReg 9#4 1#3) = true ∧
      noReset (blockWith (poll 7#32)).inputs ∧ ∃ u, exec .readConv (blockWith (poll 7#32)) = .next u :=
  ⟨rfl, rfl, rfl, by unfold noReset; decide, _, rfl⟩

end Sys2Proof.Tests
end

section
/-! PROOF. What a command's start and one reaction can do, said once each; the statements of `00_scope.md` follow from the
two. -/

namespace Sys2Proof.Machine

open Sys2Proof.Safety

/-! ### The starts of the commands -/

/-- The address and the image of each of the four configuration commands (R104 to R107). -/
def configTargets : List (RegAddr × Image) := [(1#4, .mode), (2#4, .control), (3#4, .filter), (7#4, .io)]

/-- All that the start of a command can be. -/
inductive Start : (State → State) → Prop
  | illegal : Start (respond .illegal 0#32)
  | write (a : RegAddr) {bytes : List Byte} (h : bytes.length ≤ maxXferBytes) : Start (regWrite a bytes .rawWrite)
  | read (a : RegAddr) {n : Nat} (h : n ≤ maxXferBytes) : Start (regRead a n .rawRead)
  | config {a : RegAddr} {x : Image} (h : (a, x) ∈ configTargets) (v : Params → Byte) :
      Start (fun s => configWrite a x (v s.params) .config s)
  | init : Start startInit
  | calibrate (timeout : U32) : Start (startCalibrate timeout)
  | readConv : Start startReadConv
  | probe : Start startProbe

/-- Every command has one of these starts: a length above MAX_XFER_BYTES and an ILLEGAL row respond at once (R97, R98, R139), the
pseudo-instructions are raw accesses (R73). -/
theorem start_startOf (i : Instr) : Start (startOf i) := by
  have rawWrite : ∀ a n arg, Start (startWriteReg a n arg) := by
    intro a n arg
    by_cases h : maxXferBytes < n.toNat
    · rw [show startWriteReg a n arg = respond .illegal 0#32 from funext fun _ => if_pos h]
      exact .illegal
    · rw [show startWriteReg a n arg = regWrite a (byteLanes n.toNat arg) .rawWrite from funext fun _ => if_neg h]
      exact .write a (by simpa [byteLanes] using h)
  have rawRead : ∀ a n, Start (startReadReg a n) := by
    intro a n
    by_cases h : maxXferBytes < n.toNat
    · rw [show startReadReg a n = respond .illegal 0#32 from funext fun _ => if_pos h]
      exact .illegal
    · rw [show startReadReg a n = regRead a n.toNat .rawRead from funext fun _ => if_neg h]
      exact .read a (not_lt.mp h)
  cases i with
  | init => exact .init
  | writeReg a n arg => exact rawWrite a n arg
  | readReg a n => exact rawRead a n
  | cfgMode md b1 b2 b3 b4 b5 =>
    exact .config (by decide) (fun p => buildMode p.modeLayout md b1 b2 b3 b4 b5)
  | cfgChannel ch rn pol => exact .config (by decide) (fun p => buildControl p.controlLayout ch rn pol)
  | cfgFilter sf => exact .config (by decide) (fun _ => buildFilter sf)
  | cfgIo b1 b2 => exact .config (by decide) (fun p => buildIo p.ioLayout b1 b2)
  | calibrate timeout => exact .calibrate timeout
  | readConv => exact .readConv
  | probe => exact .probe
  | selectW a => exact rawWrite a 0#3 0#32
  | selectR a => exact rawRead a 0#3
  | readStatus => exact rawRead 0#4 1#3
  | readMode => exact rawRead 1#4 1#3
  | readControl => exact rawRead 2#4 1#3
  | readId => exact rawRead 15#4 1#3
  | illegalOp0 => exact .illegal
  | illegalOpB => exact .illegal
  | illegalOpCF low => exact .illegal
  | illegalWriteRegLen57 b => exact .illegal
  | illegalWriteRegLen67 b => exact .illegal
  | illegalReadRegLen57 b => exact .illegal
  | illegalReadRegLen67 b => exact .illegal

theorem Start.withInputs {f : State → State} (h : Start f) (xs : List Input) (s : State) :
    f (withInputs xs s) = Machine.withInputs xs (f s) := by
  cases h with
  | illegal => rfl
  | write a _ => rfl
  | read a _ => rfl
  | config _ v => exact configWrite_withInputs _ _ (v s.params) .config xs s
  | init => rfl
  | calibrate timeout => rfl
  | readConv => rfl
  | probe => rfl

/-- No start reads or writes the events still to come. -/
theorem startOf_withInputs (i : Instr) (xs : List Input) (s : State) :
    startOf i (withInputs xs s) = withInputs xs (startOf i s) := (start_startOf i).withInputs xs s

@[simp] theorem startOf_inputs (i : Instr) (s : State) : (startOf i s).inputs = s.inputs := by
  have h : startOf i s = withInputs s.inputs (startOf i s) := startOf_withInputs i s.inputs s
  rw [h]
  rfl

/-- A command starts and takes its answers from the events still to come. -/
theorem exec_eq_settle (i : Instr) (s : State) : exec i s = .next (settle s.inputs (startOf i s)) := by
  rw [exec_eq, runCommand_of_inputs (startOf_inputs i s)]

/-- `exec_eq_settle` with the events named. -/
theorem exec_withInputs (i : Instr) (xs : List Input) (s : State) :
    exec i (withInputs xs s) = .next (settle xs (startOf i s)) := by
  rw [exec_eq_settle, startOf_withInputs, settle_withInputs]
  rfl

/-- A command still waiting after some events goes on with the later ones as if they had come together. -/
theorem settle_append {s : State} (xs ys : List Input) (h : (settle xs s).point.isSome = true) :
    settle (xs ++ ys) s = settle ys (settle xs s) := by
  induction xs generalizing s with
  | nil => exact (settle_withInputs ys [] s).symm
  | cons x xs ih =>
    cases hs : s.point with
    | none =>
      rw [settle_ended hs] at h
      simp [hs] at h
    | some p =>
      have hrun : s.point.isSome = true := by simp [hs]
      rw [settle_running hrun] at h
      rw [List.cons_append, settle_running hrun, settle_running hrun, ih h]

/-! ### One reaction -/

/-- All that one event of the environment can do: nothing, a take, a reset, or the answer that the point awaits. -/
inductive Reaction (s : State) : Input → State → Prop
  | ignored (x : Input) : Reaction s x s
  | taken : Reaction s .take (takeResponse s)
  | reset : Reaction s .reset (resetBlock s)
  | addrPhase {t : Transaction} {k : Cont} (h : s.point = some (.addrPhase t k)) (r : BusAnswer) :
      Reaction s (.bus r) (answerAddrPhase t k r s)
  | dataPhase {t : Transaction} {k : Cont} (h : s.point = some (.dataPhase t k)) (r : BusAnswer) :
      Reaction s (.bus r) (answerDataPhase t k r s)
  | pollStart {phase : CalPhase} (h : s.point = some (.pollStart phase)) (t : U32) :
      Reaction s (.time t) (answerPollStart phase t s)
  | pollTime {phase : CalPhase} (h : s.point = some (.pollTime phase)) (t : U32) :
      Reaction s (.time t) (answerPollTime phase t s)
  | pollDelay {phase : CalPhase} (h : s.point = some (.pollDelay phase)) : Reaction s .delayDone (pollRead phase s)

/-- Every reaction is one of these. -/
theorem reaction_react (x : Input) (s : State) : Reaction s x (react x s) := by
  cases x with
  | command cw => exact .ignored _
  | take => exact .taken
  | late a => exact .ignored _
  | reset => exact .reset
  | bus r =>
    simp only [react, onBus]
    split
    · next h => exact .addrPhase h r
    · next h => exact .dataPhase h r
    all_goals exact .ignored _
  | time t =>
    simp only [react, onTime]
    split
    · next h => exact .pollStart h t
    · next h => exact .pollTime h t
    all_goals exact .ignored _
  | delayDone =>
    simp only [react, onDelayDone]
    split
    · next h => exact .pollDelay h
    all_goals exact .ignored _

/-! ### Emission: a command's moves emit no response but a last one -/

/-- `u` is reached from `s` with the parameters kept (R161) and port events emitted, none of them a response. -/
def Quiet (s u : State) : Prop :=
  u.params = s.params ∧ ∃ ev : List PortEvent, ev.countP isRespond = 0 ∧ u.trace = s.trace ++ ev

/-- A command moves from `s` to `u`: without a response to an event it awaits, or with one response, emitted last, to its end
(R17, R20). -/
inductive Advances (s : State) : State → Prop
  | waits {u : State} (h : Quiet s u) (hp : u.point.isSome = true) : Advances s u
  | ends {t : State} (h : Quiet s t) (st : RspStatus) (d : U32) : Advances s (respond st d t)

theorem Quiet.of_eq {s u : State} (hp : u.params = s.params) (ht : u.trace = s.trace) : Quiet s u :=
  ⟨hp, [], rfl, by simp [ht]⟩

theorem Quiet.refl (s : State) : Quiet s s := .of_eq rfl rfl

theorem Quiet.trans {s t u : State} (hst : Quiet s t) (htu : Quiet t u) : Quiet s u := by
  obtain ⟨hp, ev, hev, ht⟩ := hst
  obtain ⟨hp', ev', hev', ht'⟩ := htu
  exact ⟨hp'.trans hp, ev ++ ev', by simp [List.countP_append, hev, hev'], by simp [ht, ht']⟩

theorem Quiet.emit {e : PortEvent} (he : isRespond e = false) (s : State) : Quiet s (emit e s) :=
  ⟨rfl, [e], by simp [he], rfl⟩

theorem Quiet.setCS (b : Bool) (s : State) : Quiet s (setCS b s) := ⟨rfl, [.setCS b], rfl, rfl⟩

theorem Quiet.storeImage (x : Image) (v : Byte) (s : State) : Quiet s (storeImage x v s) := .of_eq (by simp) (by simp)

theorem Quiet.refreshImage (t : Transaction) (bs : List Byte) (s : State) : Quiet s (refreshImage t bs s) := by
  unfold Machine.refreshImage
  split
  · rw [updateImageOnRead_eq]
    exact .of_eq rfl rfl
  · exact .refl s

theorem Quiet.beginTransact (t : Transaction) (k : Cont) (s : State) : Quiet s (beginTransact t k s) := by
  rw [beginTransact_eq]
  exact ⟨rfl, [.setCS true, .busOut [transactionByte t false s] s.params.busTimeoutMs], rfl, rfl⟩

theorem Quiet.advances {s t u : State} (hst : Quiet s t) (htu : Advances t u) : Advances s u := by
  cases htu with
  | waits h hp => exact .waits (hst.trans h) hp
  | ends h st d => exact .ends (hst.trans h) st d

theorem Advances.respond (st : RspStatus) (d : U32) (s : State) : Advances s (respond st d s) := .ends (.refl s) st d

theorem Advances.beginTransact (t : Transaction) (k : Cont) (s : State) : Advances s (beginTransact t k s) :=
  .waits (.beginTransact t k s) rfl

theorem Advances.await {e : PortEvent} (he : isRespond e = false) (p : Point) (s : State) :
    Advances s (awaitAt p (emit e s)) :=
  .waits ((Quiet.emit he s).trans (.of_eq rfl rfl)) rfl

theorem Advances.configWrite (a : RegAddr) (x : Image) (v : Byte) (k : Cont) (s : State) :
    Advances s (configWrite a x v k s) :=
  (Quiet.storeImage x v s).advances (.beginTransact _ k _)

theorem Advances.requestCal (phase : CalPhase) (s : State) : Advances s (requestCal phase s) :=
  Quiet.advances (t := setCalState (requestState phase) s) (.of_eq rfl rfl) (.configWrite _ _ _ _ _)

theorem Advances.startInitStage (stage : InitStage) (s : State) : Advances s (startInitStage stage s) := by
  cases stage with
  | io => exact .configWrite _ _ _ _ s
  | filter => exact .configWrite _ _ _ _ s
  | control => exact .configWrite _ _ _ _ s
  | mode => exact .configWrite _ _ _ _ s

theorem Advances.start {f : State → State} (h : Start f) (s : State) : Advances s (f s) := by
  cases h with
  | illegal => exact .respond _ _ s
  | write a _ => exact .beginTransact _ _ s
  | read a _ => exact .beginTransact _ _ s
  | config _ v => exact .configWrite _ _ _ _ s
  | init => exact Quiet.advances (t := zeroImages s) (.of_eq rfl rfl) (.startInitStage .io _)
  | calibrate timeout =>
    exact Quiet.advances (t := { s with pollLimit := minU32 timeout s.params.calHardLimitMs }) (.of_eq rfl rfl)
      (.requestCal .zero _)
  | readConv => exact .beginTransact _ _ s
  | probe => exact .beginTransact _ _ s

theorem Advances.startOf (i : Instr) (s : State) : Advances s (startOf i s) := .start (start_startOf i) s

theorem Advances.respondResult (r : TxnResult) (s : State) : Advances s (respondResult r s) := by
  cases r with
  | ok bs => exact .respond _ _ s
  | err => exact .respond _ _ s

theorem Advances.respond_setCalState (c : CalState) (st : RspStatus) (d : U32) (s : State) :
    Advances s (Machine.respond st d (setCalState c s)) :=
  Quiet.advances (t := setCalState c s) (.of_eq rfl rfl) (.respond st d _)

theorem Advances.returnTo (k : Cont) (r : TxnResult) (s : State) : Advances s (returnTo k r s) := by
  cases k with
  | rawWrite => exact .respondResult r s
  | config => exact .respondResult r s
  | rawRead => cases r <;> exact .respond _ _ s
  | readConv => cases r <;> exact .respond _ _ s
  | probe => cases r <;> exact .respond _ _ s
  | init stage =>
    cases r with
    | err => exact .respond _ _ s
    | ok bs =>
      simp only [Machine.returnTo, afterInit]
      split
      · exact .startInitStage _ s
      · exact .respond _ _ s
  | calRequest phase =>
    cases r with
    | err => exact .respond_setCalState _ _ _ s
    | ok bs => exact Quiet.advances (t := setCalState (awaitState phase) s) (.of_eq rfl rfl) (.await rfl _ _)
  | calPoll phase =>
    cases r with
    | err => exact .respond_setCalState _ _ _ s
    | ok bs =>
      simp only [Machine.returnTo, afterCalPoll]
      split
      · cases phase with
        | zero => exact .requestCal .full s
        | full => exact .respond_setCalState _ _ _ s
      · exact .await rfl _ s

theorem isRespond_dataRequest (t : Transaction) (s : State) : isRespond (dataRequest t s) = false := by
  unfold dataRequest
  cases t.dir <;> rfl

theorem Advances.answerAddrPhase (t : Transaction) (k : Cont) (r : BusAnswer) (s : State) :
    Advances s (answerAddrPhase t k r s) := by
  have hstore := Quiet.storeImage .comm (transactionByte t true s) s
  have hend := hstore.trans (.setCS false _)
  cases r with
  | err => exact hend.advances (.returnTo k _ _)
  | ok l =>
    simp only [Machine.answerAddrPhase]
    split
    · exact hend.advances (.returnTo k _ _)
    · exact hstore.advances (.await (isRespond_dataRequest t s) _ _)

theorem Advances.answerDataPhase (t : Transaction) (k : Cont) (r : BusAnswer) (s : State) :
    Advances s (answerDataPhase t k r s) := by
  have hend := Quiet.setCS false s
  cases r with
  | err => exact hend.advances (.returnTo k _ _)
  | ok l =>
    simp only [Machine.answerDataPhase]
    split
    · exact hend.advances (.returnTo k _ _)
    · exact (hend.trans (.refreshImage t _ _)).advances (.returnTo k _ _)

theorem Advances.answerPollTime (phase : CalPhase) (t : U32) (s : State) : Advances s (answerPollTime phase t s) := by
  unfold Machine.answerPollTime
  split
  · exact .respond_setCalState _ _ _ s
  · split
    · exact .beginTransact _ _ s
    · exact .await rfl _ s

theorem Advances.reaction {s u : State} {x : Input} (h : Reaction s x u) (hx : x ≠ .reset)
    (hs : s.point.isSome = true) : Advances s u := by
  cases h with
  | ignored => exact .waits (.refl s) hs
  | taken => exact .waits (.of_eq rfl rfl) hs
  | reset => exact absurd rfl hx
  | addrPhase _ r => exact .answerAddrPhase _ _ r s
  | dataPhase _ r => exact .answerDataPhase _ _ r s
  | pollStart _ t => exact Quiet.advances (t := { s with pollStart := t }) (.of_eq rfl rfl) (.beginTransact _ _ _)
  | pollTime _ t => exact .answerPollTime _ t s
  | pollDelay _ => exact .beginTransact _ _ s

/-- A running command moves at every event but a reset. -/
theorem Advances.react {x : Input} {s : State} (hx : x ≠ .reset) (hs : s.point.isSome = true) : Advances s (react x s) :=
  .reaction (reaction_react x s) hx hs

theorem Advances.withInputs {s u : State} (h : Advances s u) (xs : List Input) : Advances s (withInputs xs u) := by
  cases h with
  | waits h hp => exact .waits (h.trans (.of_eq rfl rfl)) hp
  | ends h st d => exact .ends (t := Machine.withInputs xs _) (h.trans (.of_eq rfl rfl)) st d

/-- A command's whole run without a reset is one move: however many events it takes, it responds at most once, at its end. -/
theorem Advances.settle {s u : State} {xs : List Input} (h : Advances s u) (hxs : noReset xs) :
    Advances s (settle xs u) := by
  induction xs generalizing u with
  | nil => exact h.withInputs []
  | cons x xs ih =>
    obtain ⟨hx, hrest⟩ : Input.reset ≠ x ∧ Input.reset ∉ xs := List.ne_and_not_mem_of_not_mem_cons hxs
    cases h with
    | waits hq hp =>
      rw [settle_running hp]
      exact ih (hq.advances (.react hx.symm hp)) hrest
    | ends hq st d =>
      rw [settle_ended rfl]
      exact (Advances.ends hq st d).withInputs (x :: xs)

theorem Advances.exec {i : Instr} {s u : State} (hs : noReset s.inputs) (h : exec i s = .next u) : Advances s u := by
  rw [exec_eq_settle] at h
  cases h
  exact (Advances.startOf i s).settle hs

/-! ### The parameters (R161) -/

theorem Advances.params {s u : State} (h : Advances s u) : u.params = s.params := by
  cases h with
  | waits h _ => exact h.1
  | ends h _ _ => exact h.1

/-- No command writes a parameter, whatever the environment does, resets included. -/
theorem settle_params (xs : List Input) (s : State) : (settle xs s).params = s.params := by
  induction xs generalizing s with
  | nil => rfl
  | cons x xs ih =>
    cases hs : s.point.isSome with
    | false => simp [settle, hs]
    | true =>
      rw [settle_running hs, ih]
      by_cases hx : x = .reset
      · rw [hx]; rfl
      · exact (Advances.react hx hs).params

end Sys2Proof.Machine

namespace Sys2Proof.Safety

open Sys2Proof.Machine

/-- Settles O22: the two runs are `settle` of the whole list and of its two pieces, which `settle_append` equates. -/
theorem answersMayArriveInPieces : Obligations.AnswersMayArriveInPieces := by
  intro i s u xs ys hok hexec hwait
  change exec i (withInputs xs s) = .next u at hexec
  rw [exec_withInputs] at hexec
  cases hexec
  have hparams : (settle xs (startOf i s)).params = s.params := (settle_params xs _).trans (Advances.startOf i s).params
  calc step (withInputs ys (settle xs (startOf i s)))
      = .next (settle ys (withInputs ys (settle xs (startOf i s)))) := step_running (hparams ▸ hok) hwait
    _ = .next (settle ys (settle xs (startOf i s))) := by rw [settle_withInputs]
    _ = .next (settle (xs ++ ys) (startOf i s)) := by rw [settle_append xs ys hwait]
    _ = exec i (withInputs (xs ++ ys) s) := (exec_withInputs i (xs ++ ys) s).symm

/-- Settles O48: a command's run is one move (`Advances.exec`), and a move holds at most one response, its last event. -/
theorem exactlyOneResponse : Obligations.ExactlyOneResponse := by
  intro i s u hs hexec
  cases Advances.exec hs hexec with
  | waits h hp =>
    obtain ⟨-, ev, hev, htrace⟩ := h
    exact ⟨ev, hev, by rw [if_neg (Option.isSome_iff_ne_none.mp hp)]; exact htrace⟩
  | ends h st d =>
    obtain ⟨-, ev, hev, htrace⟩ := h
    exact ⟨ev, hev, by simp [htrace]⟩

end Sys2Proof.Safety
end

section
/-! PROOF. The invariant of the control state (O23). Between two awaited events a command "has control": it runs, chip-select
is deasserted and WEN is restored. Each of its next moves (a response, a transaction, an await of the poll) leads from there into
the invariant, and each answer leads from the invariant back there. -/

namespace Sys2Proof.Safety

open Sys2Proof.Machine

/-! ### A command that has control -/

/-- A command runs and stands between two awaited events, outside a frame (R20, R91, R92). -/
structure HasControl (s : State) : Prop where
  busy : s.busy = true
  rspValid : s.rspValid = false
  cs : s.cs = false
  comm : CommRests s
  response : ResponseOk s
  limit : LimitOk s

theorem HasControl.setCalState {s : State} (h : HasControl s) (c : CalState) : HasControl (setCalState c s) :=
  ⟨h.busy, h.rspValid, h.cs, h.comm, h.response, h.limit⟩

theorem HasControl.storeImage {s : State} (h : HasControl s) {x : Image} (hx : x ≠ .comm) (v : Byte) :
    HasControl (storeImage x v s) := by
  cases x with
  | comm => exact absurd rfl hx
  | _ => exact ⟨h.busy, h.rspValid, h.cs, h.comm, h.response, h.limit⟩

theorem HasControl.refreshImage {s : State} (h : HasControl s) (t : Transaction) (bs : List Byte) :
    HasControl (refreshImage t bs s) := by
  unfold Machine.refreshImage
  split
  · rw [updateImageOnRead_eq]
    exact ⟨h.busy, h.rspValid, h.cs, h.comm, h.response, h.limit⟩
  · exact h

theorem HasControl.zeroImages {s : State} (h : HasControl s) : HasControl (zeroImages s) :=
  ⟨h.busy, h.rspValid, h.cs, .inl rfl, h.response, h.limit⟩

theorem toNat_minU32_le (a b : U32) : (minU32 a b).toNat ≤ b.toNat := by
  unfold minU32
  split
  · next h => exact BitVec.le_def.mp h
  · exact le_rfl

/-- The effective limit stays under the hard ceiling (R116). -/
theorem HasControl.pollLimit {s : State} (h : HasControl s) (timeout : U32) :
    HasControl { s with pollLimit := minU32 timeout s.params.calHardLimitMs } :=
  ⟨h.busy, h.rspValid, h.cs, h.comm, h.response, toNat_minU32_le _ _⟩

theorem HasControl.pollStart {s : State} (h : HasControl s) (t : U32) : HasControl { s with pollStart := t } :=
  ⟨h.busy, h.rspValid, h.cs, h.comm, h.response, h.limit⟩

/-- A frame's end: WEN has been restored (R92) and chip-select is deasserted (R91). -/
theorem HasControl.endFrame {s : State} {t : Transaction} (hbusy : s.busy = true) (hvalid : s.rspValid = false)
    (hcomm : s.imgComm = transactionByte t true s) (hrsp : ResponseOk s) (hlim : LimitOk s) :
    HasControl (setCS false s) :=
  ⟨hbusy, hvalid, rfl, .inr ⟨_, _, hcomm⟩, hrsp, hlim⟩

/-! ### The invariant at a point -/

/-- A command that runs is busy and has no response pending. -/
theorem Inv.running {s : State} {p : Point} (h : Inv s) (hp : s.point = some p) : s.busy = true ∧ s.rspValid = false := by
  obtain ⟨hbusy, hvalid, -⟩ := h.control
  have hb : s.busy = true := by rw [hbusy, hp]; rfl
  exact ⟨hb, hvalid hb⟩

/-- The points of an await phase (R117, R118, R122). -/
inductive IsPoll (phase : CalPhase) : Point → Prop
  | start : IsPoll phase (.pollStart phase)
  | time : IsPoll phase (.pollTime phase)
  | delay : IsPoll phase (.pollDelay phase)

/-- A time sample or a delay is awaited outside any frame, in the phase's await state. -/
theorem Inv.at_poll {s : State} {phase : CalPhase} {p : Point} (h : Inv s) (hp : s.point = some p)
    (hpoll : IsPoll phase p) : HasControl s ∧ s.calState = awaitState phase := by
  obtain ⟨hbusy, hvalid⟩ := h.running hp
  obtain ⟨-, -, hcs⟩ := h.control
  have hcomm := h.comm
  have hcal := h.calState
  unfold CommOk at hcomm
  unfold CalStateOk at hcal
  rw [hp] at hcs hcomm hcal
  cases hpoll with
  | _ => exact ⟨⟨hbusy, hvalid, hcs, hcomm, h.response, h.limit⟩, hcal⟩

theorem Inv.await_poll {s : State} {phase : CalPhase} {p : Point} (h : HasControl s) (hcal : s.calState = awaitState phase)
    (hpoll : IsPoll phase p) (e : PortEvent) : Inv (awaitAt p (emit e s)) := by
  cases hpoll with
  | _ => exact ⟨⟨h.busy, fun _ => h.rspValid, h.cs⟩, h.comm, hcal, trivial, h.response, h.limit⟩

/-! ### From control into the invariant -/

/-- A response ends the command in a resting `cal_state`, with the data its status allows (R72, R146). -/
theorem Inv.respond {s : State} (h : HasControl s) (hcal : calResting s.calState = true) {st : RspStatus} {d : U32}
    (hd : ResponseOk (respond st d s)) : Inv (respond st d s) :=
  ⟨⟨rfl, fun hb => absurd hb Bool.false_ne_true, h.cs⟩, h.comm, hcal, trivial, hd, h.limit⟩

/-- A rule's transaction depends on the four configuration images alone. -/
theorem transactionOf_congr (k : Cont) (t : Transaction) {s u : State} (hmode : u.imgMode = s.imgMode)
    (hcontrol : u.imgControl = s.imgControl) (hfilter : u.imgFilter = s.imgFilter) (hio : u.imgIo = s.imgIo) :
    transactionOf k t u ↔ transactionOf k t s := by
  unfold transactionOf
  rw [hmode, hcontrol, hfilter, hio]

theorem Inv.beginTransact {s : State} (h : HasControl s) {t : Transaction} {k : Cont} (hcal : calStateUnder k s.calState)
    (ht : transactionOf k t s) : Inv (beginTransact t k s) :=
  ⟨⟨h.busy, fun _ => h.rspValid, rfl⟩, (transactionByte_beginTransact t t false k s).symm, hcal,
    (transactionOf_congr k t rfl rfl rfl rfl).mpr ht, h.response, h.limit⟩

theorem Inv.configWrite {s : State} (h : HasControl s) {a : RegAddr} {x : Image} {v : Byte} {k : Cont} (hx : x ≠ .comm)
    (hcal : calStateUnder k s.calState) (ht : transactionOf k ⟨a, .write, 1, [v]⟩ (storeImage x v s)) :
    Inv (configWrite a x v k s) :=
  .beginTransact (h.storeImage hx v) (by rwa [storeImage_calState]) ht

theorem Inv.requestCal {s : State} (h : HasControl s) (phase : CalPhase) : Inv (requestCal phase s) :=
  .configWrite (h.setCalState _) (by decide) rfl rfl

theorem Inv.startInitStage {s : State} (h : HasControl s) (hcal : calResting s.calState = true) (stage : InitStage) :
    Inv (startInitStage stage s) := by
  cases stage with
  | io => exact .configWrite h (by decide) hcal rfl
  | filter => exact .configWrite h (by decide) hcal rfl
  | control => exact .configWrite h (by decide) hcal rfl
  | mode => exact .configWrite h (by decide) hcal rfl

theorem Inv.pollRead {s : State} (h : HasControl s) {phase : CalPhase} (hcal : s.calState = awaitState phase) :
    Inv (pollRead phase s) :=
  .beginTransact h hcal rfl

/-- A configuration command's write carries the byte that its image now holds (R103). -/
theorem transactionOf_config {a : RegAddr} {x : Image} (h : (a, x) ∈ configTargets) (v : Byte) (s : State) :
    transactionOf .config ⟨a, .write, 1, [v]⟩ (storeImage x v s) := by
  simp only [configTargets, List.mem_cons, List.not_mem_nil, or_false, Prod.mk.injEq] at h
  rcases h with ⟨rfl, rfl⟩ | ⟨rfl, rfl⟩ | ⟨rfl, rfl⟩ | ⟨rfl, rfl⟩
  · exact .inl rfl
  · exact .inr (.inl rfl)
  · exact .inr (.inr (.inl rfl))
  · exact .inr (.inr (.inr rfl))

theorem ne_comm_of_configTargets {a : RegAddr} {x : Image} (h : (a, x) ∈ configTargets) : x ≠ .comm := by
  rintro rfl
  simp [configTargets] at h

/-- Every command starts into the invariant. -/
theorem Inv.start {f : State → State} (hf : Start f) {s : State} (h : HasControl s) (hcal : calResting s.calState = true) :
    Inv (f s) := by
  cases hf with
  | illegal => exact .respond h hcal rfl
  | write a hn => exact .beginTransact h hcal ⟨rfl, hn, rfl⟩
  | read a hn => exact .beginTransact h hcal ⟨rfl, hn, rfl⟩
  | config hx v => exact .configWrite h (ne_comm_of_configTargets hx) hcal (transactionOf_config hx _ s)
  | init => exact .startInitStage h.zeroImages hcal .io
  | calibrate timeout => exact .requestCal (h.pollLimit timeout) .zero
  | readConv => exact .beginTransact h hcal rfl
  | probe => exact .beginTransact h hcal rfl

/-! ### A transaction returns -/

/-- PROBE's data is the one ID byte (R134), on NOT_PRESENT too. -/
theorem responseOk_presence (deviceId : BitVec 4) (b : Byte) (s : State) :
    ResponseOk (respond (presenceStatus deviceId b) (b.setWidth 32) s) := by
  unfold presenceStatus
  by_cases h : highNibble b = deviceId
  · rw [if_pos h]
    trivial
  · rw [if_neg h]
    show (b.setWidth 32).toNat < 256
    simp only [BitVec.toNat_setWidth]
    omega

theorem Inv.respondResult {s : State} (h : HasControl s) (hcal : calResting s.calState = true) (r : TxnResult) :
    Inv (respondResult r s) := by
  cases r with
  | ok bs => exact .respond h hcal trivial
  | err => exact .respond h hcal rfl

theorem Inv.afterInit {s : State} (h : HasControl s) (hcal : calResting s.calState = true) (stage : InitStage)
    (r : TxnResult) : Inv (afterInit stage r s) := by
  cases r with
  | err => exact .respond h hcal rfl
  | ok bs =>
    simp only [Machine.afterInit]
    split
    · exact .startInitStage h hcal _
    · exact .respond h hcal trivial

theorem Inv.calBusFailed {s : State} (h : HasControl s) : Inv (calBusFailed s) := .respond (h.setCalState _) rfl rfl

theorem Inv.afterCalPoll {s : State} (h : HasControl s) {phase : CalPhase} (hcal : s.calState = awaitState phase)
    (r : TxnResult) : Inv (afterCalPoll phase r s) := by
  cases r with
  | err => exact .calBusFailed h
  | ok bs =>
    simp only [Machine.afterCalPoll]
    split
    · cases phase with
      | zero => exact .requestCal h .full
      | full => exact .respond (h.setCalState _) rfl trivial
    · exact .await_poll h hcal .time _

/-- Every rule goes on into the invariant. -/
theorem Inv.returnTo {s : State} {k : Cont} (h : HasControl s) (hcal : calStateUnder k s.calState) (r : TxnResult) :
    Inv (returnTo k r s) := by
  cases k with
  | rawWrite => exact .respondResult h hcal r
  | config => exact .respondResult h hcal r
  | rawRead =>
    cases r with
    | ok bs => exact .respond h hcal trivial
    | err => exact .respond h hcal rfl
  | readConv =>
    cases r with
    | ok bs => exact .respond h hcal trivial
    | err => exact .respond h hcal rfl
  | probe =>
    cases r with
    | ok bs => exact .respond h hcal (responseOk_presence _ _ s)
    | err => exact .respond h hcal rfl
  | init stage => exact .afterInit h hcal stage r
  | calRequest phase =>
    cases r with
    | err => exact .calBusFailed h
    | ok bs => exact .await_poll (h.setCalState _) rfl .start _
  | calPoll phase => exact .afterCalPoll h hcal r

/-! ### The answers -/

theorem Inv.answerAddrPhase {s : State} {t : Transaction} {k : Cont} (h : Inv s) (hp : s.point = some (.addrPhase t k))
    (r : BusAnswer) : Inv (answerAddrPhase t k r s) := by
  obtain ⟨hbusy, hvalid⟩ := h.running hp
  obtain ⟨-, -, hcs⟩ := h.control
  have hcal := h.calState
  have htxn := h.transaction
  unfold CalStateOk at hcal
  unfold TransactionOk at htxn
  rw [hp] at hcs hcal htxn
  have hend : HasControl (setCS false (storeImage .comm (transactionByte t true s) s)) :=
    .endFrame (t := t) hbusy hvalid rfl h.response h.limit
  cases r with
  | err => exact .returnTo hend hcal .err
  | ok l =>
    simp only [Machine.answerAddrPhase]
    split
    · exact .returnTo hend hcal (.ok [])
    · next hlen =>
      exact ⟨⟨hbusy, fun _ => hvalid, hcs⟩, rfl, hcal, ⟨(transactionOf_congr k t rfl rfl rfl rfl).mpr htxn, hlen⟩,
        h.response, h.limit⟩

theorem refreshImage_calState (t : Transaction) (bs : List Byte) (s : State) :
    (refreshImage t bs s).calState = s.calState := by
  unfold refreshImage
  split
  · rw [updateImageOnRead_eq]
  · rfl

theorem Inv.answerDataPhase {s : State} {t : Transaction} {k : Cont} (h : Inv s) (hp : s.point = some (.dataPhase t k))
    (r : BusAnswer) : Inv (answerDataPhase t k r s) := by
  obtain ⟨hbusy, hvalid⟩ := h.running hp
  have hcomm := h.comm
  have hcal := h.calState
  unfold CommOk at hcomm
  unfold CalStateOk at hcal
  rw [hp] at hcomm hcal
  have hend : HasControl (setCS false s) := .endFrame hbusy hvalid hcomm h.response h.limit
  cases r with
  | err => exact .returnTo hend hcal .err
  | ok l =>
    simp only [Machine.answerDataPhase]
    split
    · exact .returnTo hend hcal (.ok [])
    · exact .returnTo (hend.refreshImage t _) (by rwa [refreshImage_calState]) _

theorem Inv.answerPollTime {s : State} {phase : CalPhase} (h : HasControl s) (hcal : s.calState = awaitState phase) (t : U32) :
    Inv (answerPollTime phase t s) := by
  unfold Machine.answerPollTime
  split
  · exact .respond (h.setCalState _) rfl rfl
  · split
    · exact .pollRead h hcal
    · exact .await_poll h hcal .delay _

theorem Inv.takeResponse {s : State} (h : Inv s) : Inv (takeResponse s) := by
  obtain ⟨hbusy, -, hcs⟩ := h.control
  exact ⟨⟨hbusy, fun _ => rfl, hcs⟩, h.comm, h.calState, h.transaction, h.response, h.limit⟩

theorem Inv.resetBlock (s : State) : Inv (resetBlock s) :=
  ⟨⟨rfl, fun hb => absurd hb Bool.false_ne_true, rfl⟩, .inl rfl, rfl, trivial, trivial, Nat.zero_le _⟩

/-- Every event of the environment keeps the invariant, whether a command runs or not. -/
theorem Inv.reaction {s u : State} {x : Input} (h : Inv s) (hr : Reaction s x u) : Inv u := by
  cases hr with
  | ignored => exact h
  | taken => exact h.takeResponse
  | reset => exact .resetBlock s
  | addrPhase hp r => exact h.answerAddrPhase hp r
  | dataPhase hp r => exact h.answerDataPhase hp r
  | pollStart hp t =>
    obtain ⟨hc, hcal⟩ := h.at_poll hp .start
    exact Inv.pollRead (hc.pollStart t) hcal
  | pollTime hp t =>
    obtain ⟨hc, hcal⟩ := h.at_poll hp .time
    exact .answerPollTime hc hcal t
  | pollDelay hp =>
    obtain ⟨hc, hcal⟩ := h.at_poll hp .delay
    exact .pollRead hc hcal

/-! ### Runs and steps -/

theorem Inv.withInputs {s : State} (h : Inv s) (xs : List Input) : Inv (withInputs xs s) :=
  ⟨h.control, h.comm, h.calState, h.transaction, h.response, h.limit⟩

theorem Inv.settle {s : State} (h : Inv s) (xs : List Input) : Inv (settle xs s) := by
  induction xs generalizing s with
  | nil => exact h.withInputs []
  | cons x xs ih =>
    cases hp : s.point with
    | none =>
      rw [settle_ended hp]
      exact h.withInputs (x :: xs)
    | some p =>
      rw [settle_running (by simp [hp])]
      exact ih (h.reaction (reaction_react x s))

/-- A command accepted by a ready block has control, with `cal_state` at rest (R20). -/
theorem Inv.acceptCommand {s : State} (h : Inv s) (hready : cmdReady s = true) (cw : CommandWord) :
    HasControl (acceptCommand cw s) ∧ calResting (acceptCommand cw s).calState = true := by
  obtain ⟨hbusy, -, hcs⟩ := h.control
  simp only [cmdReady, Bool.and_eq_true, Bool.not_eq_true'] at hready
  have hp : s.point = none := by simpa [hready.1] using hbusy
  have hcomm := h.comm
  have hcal := h.calState
  unfold CommOk at hcomm
  unfold CalStateOk at hcal
  rw [hp] at hcs hcomm hcal
  exact ⟨⟨rfl, hready.2, hcs, hcomm, h.response, h.limit⟩, hcal⟩

theorem Inv.exec {s u : State} {i : Instr} (h : HasControl s) (hcal : calResting s.calState = true)
    (he : exec i s = .next u) : Inv u := by
  rw [exec_eq_settle] at he
  cases he
  exact (Inv.start (start_startOf i) h hcal).settle s.inputs

/-- Settles O23: an accepted command starts into the invariant, and every event of the environment keeps it. -/
theorem stepKeepsInvariant : Obligations.StepKeepsInvariant := by
  intro s t h hstep
  cases hok : paramsOk s.params with
  | false => simp [step_badTables hok] at hstep
  | true =>
    cases hp : s.point with
    | some p =>
      rw [step_running hok (by simp [hp])] at hstep
      cases hstep
      exact h.settle s.inputs
    | none =>
      cases hi : s.inputs with
      | nil =>
        rw [step_waiting hok hp hi] at hstep
        cases hstep
        exact h
      | cons x rest =>
        rw [step_taking hok hp hi] at hstep
        have hrest : Inv (Machine.withInputs rest s) := h.withInputs rest
        rcases takeInput_cases x (Machine.withInputs rest s) with
          ⟨cw, -, hready, htake⟩ | ⟨cw, -, -, htake⟩ | ⟨-, htake⟩
        · rw [htake] at hstep
          obtain ⟨hcontrol, hcal⟩ := hrest.acceptCommand hready cw
          exact .exec hcontrol hcal hstep
        · rw [htake] at hstep
          cases hstep
          exact hrest
        · rw [htake] at hstep
          cases hstep
          exact hrest.reaction (reaction_react x _)

end Sys2Proof.Safety
end

section
/-! PROOF. The registers that outlast a command (spec/10_state.md R19 to R22). `cur_cw` and the response registers stand until a
response, and the calibration registers stand under every rule but CALIBRATE's. A command's rule is read off the point it
waits at (`runsCalibrate`), and no reaction changes rules. -/

namespace Sys2Proof.Machine

open Sys2Proof.Safety

/-! ### The step that accepts a command -/

/-- A ready block latches the word and runs what it decodes to (R20). -/
theorem step_accepts {s : State} {cw : CommandWord} {rest : List Input} (hok : paramsOk s.params = true)
    (hp : s.point = none) (hready : cmdReady s = true) (hi : s.inputs = .command cw :: rest) :
    step s = exec (decode cw) (acceptCommand cw (withInputs rest s)) := by
  have htake : takeInput (.command cw) (withInputs rest s) = .run (decode cw) (acceptCommand cw (withInputs rest s)) :=
    if_pos hready
  rw [step_taking hok hp hi, htake]

theorem cmdReady_iff (s : State) : cmdReady s = true ↔ s.busy = false ∧ s.rspValid = false := by
  simp [cmdReady]

theorem decode_of_decodeTableWord {nbits w : Nat} {i : Instr} (h : decodeTableWord nbits w = some i) :
    decode (tableWord nbits w) = i := by
  unfold decodeTableWord at h
  split at h
  · exact Option.some.inj h
  · cases h

/-! ### The registers, and CALIBRATE's points -/

/-- The command word accepted last and the response given last (R20, R21). -/
def latched (s : State) : CommandWord × RspStatus × U32 := (s.curCw, s.rspStatus, s.rspData)

/-- The calibration registers (R22, R36). -/
def calRegs (s : State) : CalState × U32 × U32 := (s.calState, s.pollStart, s.pollLimit)

/-- The rule that goes on is CALIBRATE's (R114). -/
def Cont.calibrates : Cont → Bool
  | .calRequest _ => true
  | .calPoll _ => true
  | _ => false

/-- Only CALIBRATE samples the time and delays (R121, R122); at a bus request the rule that goes on decides. -/
def Point.calibrates : Point → Bool
  | .addrPhase _ k => k.calibrates
  | .dataPhase _ k => k.calibrates
  | .pollStart _ => true
  | .pollTime _ => true
  | .pollDelay _ => true

/-- The block waits inside CALIBRATE. -/
def runsCalibrate (s : State) : Bool := s.point.any Point.calibrates

theorem runsCalibrate_of_point {s : State} {p : Point} (h : s.point = some p) : runsCalibrate s = p.calibrates := by
  simp [runsCalibrate, h]

/-! ### What a command writes up to its response -/

/-- What moves without a response keep; `cal` is true under CALIBRATE alone. -/
def Keeps (cal : Bool) (s u : State) : Prop :=
  latched u = latched s ∧ (cal = false → calRegs u = calRegs s)

/-- A command moves from `s` to `u`: on to an event it awaits under the same rule, or to its response. -/
inductive Proceeds (cal : Bool) (s : State) : State → Prop
  | waits {u : State} (h : Keeps cal s u) (hp : u.point.isSome = true) (hcal : runsCalibrate u = cal) : Proceeds cal s u
  | ends {t : State} (h : Keeps cal s t) (st : RspStatus) (d : U32) : Proceeds cal s (respond st d t)

theorem Keeps.of_eq {cal : Bool} {s u : State} (hl : latched u = latched s) (hc : calRegs u = calRegs s) : Keeps cal s u :=
  ⟨hl, fun _ => hc⟩

theorem Keeps.refl (cal : Bool) (s : State) : Keeps cal s s := .of_eq rfl rfl

theorem Keeps.trans {cal : Bool} {s t u : State} (hst : Keeps cal s t) (htu : Keeps cal t u) : Keeps cal s u :=
  ⟨htu.1.trans hst.1, fun hc => (htu.2 hc).trans (hst.2 hc)⟩

/-- CALIBRATE may write the calibration registers. -/
theorem Keeps.calibrate {s u : State} (hl : latched u = latched s) : Keeps true s u := ⟨hl, nofun⟩

theorem Keeps.setCS (cal b : Bool) (s : State) : Keeps cal s (setCS b s) := .of_eq rfl rfl

theorem Keeps.storeImage (cal : Bool) (x : Image) (v : Byte) (s : State) : Keeps cal s (storeImage x v s) :=
  .of_eq (by simp [latched]) (by simp [calRegs])

theorem Keeps.refreshImage (cal : Bool) (t : Transaction) (bs : List Byte) (s : State) :
    Keeps cal s (refreshImage t bs s) := by
  unfold Machine.refreshImage
  split
  · rw [updateImageOnRead_eq]
    exact .of_eq rfl rfl
  · exact .refl cal s

theorem Keeps.proceeds {cal : Bool} {s t u : State} (hst : Keeps cal s t) (htu : Proceeds cal t u) : Proceeds cal s u := by
  cases htu with
  | waits h hp hcal => exact .waits (hst.trans h) hp hcal
  | ends h st d => exact .ends (hst.trans h) st d

theorem Proceeds.respond (cal : Bool) (st : RspStatus) (d : U32) (s : State) : Proceeds cal s (respond st d s) :=
  .ends (.refl cal s) st d

theorem Proceeds.respond_setCalState (c : CalState) (st : RspStatus) (d : U32) (s : State) :
    Proceeds true s (Machine.respond st d (setCalState c s)) :=
  Keeps.proceeds (t := setCalState c s) (.calibrate rfl) (.respond true st d _)

theorem Proceeds.await (e : PortEvent) (p : Point) (s : State) : Proceeds p.calibrates s (awaitAt p (emit e s)) :=
  .waits (.of_eq rfl rfl) rfl rfl

theorem Proceeds.beginTransact (t : Transaction) (k : Cont) (s : State) : Proceeds k.calibrates s (beginTransact t k s) :=
  .waits (.of_eq rfl rfl) rfl rfl

theorem Proceeds.configWrite (a : RegAddr) (x : Image) (v : Byte) (k : Cont) (s : State) :
    Proceeds k.calibrates s (configWrite a x v k s) :=
  (Keeps.storeImage _ x v s).proceeds (.beginTransact _ k _)

theorem Proceeds.requestCal (phase : CalPhase) (s : State) : Proceeds true s (requestCal phase s) :=
  Keeps.proceeds (t := setCalState (requestState phase) s) (.calibrate rfl) (.configWrite _ _ _ (.calRequest phase) _)

theorem Proceeds.startInitStage (stage : InitStage) (s : State) : Proceeds false s (startInitStage stage s) := by
  cases stage with
  | io => exact .configWrite _ _ _ (.init .io) s
  | filter => exact .configWrite _ _ _ (.init .filter) s
  | control => exact .configWrite _ _ _ (.init .control) s
  | mode => exact .configWrite _ _ _ (.init .mode) s

theorem Proceeds.start {f : State → State} (h : Start f) (s : State) : Proceeds (runsCalibrate (f s)) s (f s) := by
  cases h with
  | illegal => exact .respond false _ _ s
  | write a _ => exact .beginTransact _ .rawWrite s
  | read a _ => exact .beginTransact _ .rawRead s
  | config _ v => exact .configWrite _ _ _ .config s
  | init => exact Keeps.proceeds (t := zeroImages s) (.of_eq rfl rfl) (.startInitStage .io _)
  | calibrate timeout =>
    exact Keeps.proceeds (t := { s with pollLimit := minU32 timeout s.params.calHardLimitMs }) (.calibrate rfl)
      (.requestCal .zero _)
  | readConv => exact .beginTransact _ .readConv s
  | probe => exact .beginTransact _ .probe s

/-- No other command starts under CALIBRATE's rule. -/
theorem runsCalibrate_startOf {i : Instr} (h : ∀ timeout, i ≠ .calibrate timeout) (s : State) :
    runsCalibrate (startOf i s) = false := by
  cases i with
  | calibrate timeout => exact absurd rfl (h timeout)
  | writeReg a n arg =>
    simp only [startOf, startWriteReg]
    split <;> rfl
  | readReg a n =>
    simp only [startOf, startReadReg]
    split <;> rfl
  | _ => rfl

/-! ### The reactions keep the rule -/

theorem Proceeds.respondResult (cal : Bool) (r : TxnResult) (s : State) : Proceeds cal s (respondResult r s) := by
  cases r with
  | ok bs => exact .respond cal _ _ s
  | err => exact .respond cal _ _ s

theorem Proceeds.afterInit (stage : InitStage) (r : TxnResult) (s : State) : Proceeds false s (afterInit stage r s) := by
  cases r with
  | err => exact .respond false _ _ s
  | ok bs =>
    simp only [Machine.afterInit]
    split
    · exact .startInitStage _ s
    · exact .respond false _ _ s

theorem Proceeds.afterCalRequest (phase : CalPhase) (r : TxnResult) (s : State) :
    Proceeds true s (afterCalRequest phase r s) := by
  cases r with
  | err => exact .respond_setCalState _ _ _ s
  | ok bs => exact Keeps.proceeds (t := setCalState (awaitState phase) s) (.calibrate rfl) (.await _ (.pollStart phase) _)

theorem Proceeds.afterCalPoll (phase : CalPhase) (r : TxnResult) (s : State) : Proceeds true s (afterCalPoll phase r s) := by
  cases r with
  | err => exact .respond_setCalState _ _ _ s
  | ok bs =>
    simp only [Machine.afterCalPoll]
    split
    · cases phase with
      | zero => exact .requestCal .full s
      | full => exact .respond_setCalState _ _ _ s
    · exact .await _ (.pollTime phase) s

theorem Proceeds.returnTo (k : Cont) (r : TxnResult) (s : State) : Proceeds k.calibrates s (returnTo k r s) := by
  cases k with
  | rawWrite => exact .respondResult false r s
  | config => exact .respondResult false r s
  | rawRead => cases r <;> exact .respond false _ _ s
  | readConv => cases r <;> exact .respond false _ _ s
  | probe => cases r <;> exact .respond false _ _ s
  | init stage => exact .afterInit stage r s
  | calRequest phase => exact .afterCalRequest phase r s
  | calPoll phase => exact .afterCalPoll phase r s

theorem Proceeds.answerAddrPhase (t : Transaction) (k : Cont) (r : BusAnswer) (s : State) :
    Proceeds k.calibrates s (answerAddrPhase t k r s) := by
  have hstore := Keeps.storeImage k.calibrates .comm (transactionByte t true s) s
  have hend := hstore.trans (.setCS _ false _)
  cases r with
  | err => exact hend.proceeds (.returnTo k _ _)
  | ok l =>
    simp only [Machine.answerAddrPhase]
    split
    · exact hend.proceeds (.returnTo k _ _)
    · exact hstore.proceeds (.await _ (.dataPhase t k) _)

theorem Proceeds.answerDataPhase (t : Transaction) (k : Cont) (r : BusAnswer) (s : State) :
    Proceeds k.calibrates s (answerDataPhase t k r s) := by
  have hend := Keeps.setCS k.calibrates false s
  cases r with
  | err => exact hend.proceeds (.returnTo k _ _)
  | ok l =>
    simp only [Machine.answerDataPhase]
    split
    · exact hend.proceeds (.returnTo k _ _)
    · exact (hend.trans (.refreshImage _ t _ _)).proceeds (.returnTo k _ _)

theorem Proceeds.pollRead (phase : CalPhase) (s : State) : Proceeds true s (pollRead phase s) :=
  .beginTransact _ (.calPoll phase) s

theorem Proceeds.answerPollTime (phase : CalPhase) (t : U32) (s : State) : Proceeds true s (answerPollTime phase t s) := by
  unfold Machine.answerPollTime
  split
  · exact .respond_setCalState _ _ _ s
  · split
    · exact .pollRead phase s
    · exact .await _ (.pollDelay phase) s

theorem Proceeds.reaction {s u : State} {x : Input} (h : Reaction s x u) (hx : x ≠ .reset)
    (hs : s.point.isSome = true) : Proceeds (runsCalibrate s) s u := by
  cases h with
  | ignored => exact .waits (.refl _ s) hs rfl
  | taken => exact .waits (.of_eq rfl rfl) hs rfl
  | reset => exact absurd rfl hx
  | addrPhase hp r => rw [runsCalibrate_of_point hp]; exact .answerAddrPhase _ _ r s
  | dataPhase hp r => rw [runsCalibrate_of_point hp]; exact .answerDataPhase _ _ r s
  | pollStart hp t =>
    rw [runsCalibrate_of_point hp]
    exact Keeps.proceeds (t := { s with pollStart := t }) (.calibrate rfl) (.pollRead _ _)
  | pollTime hp t => rw [runsCalibrate_of_point hp]; exact .answerPollTime _ t s
  | pollDelay hp => rw [runsCalibrate_of_point hp]; exact .pollRead _ s

theorem Proceeds.withInputs {cal : Bool} {s u : State} (h : Proceeds cal s u) (xs : List Input) :
    Proceeds cal s (withInputs xs u) := by
  cases h with
  | waits h hp hcal => exact .waits (h.trans (.of_eq rfl rfl)) hp hcal
  | ends h st d => exact .ends (t := Machine.withInputs xs _) (h.trans (.of_eq rfl rfl)) st d

/-- A command's run without a reset stays under the rule it started with, to its response. -/
theorem Proceeds.settle {cal : Bool} {s u : State} {xs : List Input} (h : Proceeds cal s u) (hxs : noReset xs) :
    Proceeds cal s (settle xs u) := by
  induction xs generalizing u with
  | nil => exact h.withInputs []
  | cons x xs ih =>
    obtain ⟨hx, hrest⟩ : Input.reset ≠ x ∧ Input.reset ∉ xs := List.ne_and_not_mem_of_not_mem_cons hxs
    cases h with
    | waits hk hp hcal =>
      have hreact : Proceeds cal u (react x u) := hcal ▸ .reaction (reaction_react x u) hx.symm hp
      rw [settle_running hp]
      exact ih (hk.proceeds hreact) hrest
    | ends hk st d =>
      rw [settle_ended rfl]
      exact (Proceeds.ends hk st d).withInputs (x :: xs)

theorem Proceeds.exec {i : Instr} {s u : State} (hs : noReset s.inputs) (h : exec i s = .next u) :
    Proceeds (runsCalibrate (startOf i s)) s u := by
  rw [exec_eq_settle] at h
  cases h
  exact (Proceeds.start (start_startOf i) s).settle hs

/-! ### Reading the registers off a move -/

theorem latched_eq_iff {s u : State} :
    latched u = latched s ↔ u.curCw = s.curCw ∧ u.rspStatus = s.rspStatus ∧ u.rspData = s.rspData := by
  simp [latched]

theorem calRegs_eq_iff {s u : State} :
    calRegs u = calRegs s ↔ u.calState = s.calState ∧ u.pollStart = s.pollStart ∧ u.pollLimit = s.pollLimit := by
  simp [calRegs]

/-- A move that has not responded has the response registers as before. -/
theorem Proceeds.latched {cal : Bool} {s u : State} (h : Proceeds cal s u) (hp : u.point.isSome = true) :
    latched u = latched s := by
  cases h with
  | waits hk _ _ => exact hk.1
  | ends _ _ _ => cases hp

/-- A response leaves the accepted word. -/
theorem Proceeds.curCw {cal : Bool} {s u : State} (h : Proceeds cal s u) : u.curCw = s.curCw := by
  cases h with
  | waits hk _ _ => exact (latched_eq_iff.mp hk.1).1
  | ends hk _ _ => exact (latched_eq_iff.mp hk.1).1

/-- A response leaves the calibration registers. -/
theorem Proceeds.calRegs {s u : State} (h : Proceeds false s u) : calRegs u = calRegs s := by
  cases h with
  | waits hk _ _ => exact hk.2 rfl
  | ends hk _ _ => exact hk.2 rfl

/-- Where no command runs, only a reset writes the registers. -/
theorem Reaction.latched_of_idle {s u : State} {x : Input} (h : Reaction s x u) (hx : x ≠ .reset) (hp : s.point = none) :
    latched u = latched s := by
  cases h with
  | ignored => rfl
  | taken => rfl
  | reset => exact absurd rfl hx
  | addrPhase h _ => cases hp.symm.trans h
  | dataPhase h _ => cases hp.symm.trans h
  | pollStart h _ => cases hp.symm.trans h
  | pollTime h _ => cases hp.symm.trans h
  | pollDelay h => cases hp.symm.trans h

/-- A step that takes an event and runs no command keeps the registers, unless the event is a reset. -/
theorem latched_step_of_idle {s u : State} {x : Input} {rest : List Input} (hp : s.point = none)
    (hi : s.inputs = x :: rest) (hx : x ≠ .reset) (hcmd : ∀ cw, x = .command cw → cmdReady s = false)
    (hstep : step s = .next u) : latched u = latched s := by
  cases hok : paramsOk s.params with
  | false => simp [step_badTables hok] at hstep
  | true =>
    rw [step_taking hok hp hi] at hstep
    rcases takeInput_cases x (withInputs rest s) with ⟨cw, hcw, hready, -⟩ | ⟨cw, -, -, htake⟩ | ⟨-, htake⟩
    · exact absurd ((hcmd cw hcw).symm.trans hready) Bool.false_ne_true
    · rw [htake] at hstep
      cases hstep
      rfl
    · rw [htake] at hstep
      cases hstep
      exact (reaction_react x (withInputs rest s)).latched_of_idle hx hp

end Sys2Proof.Machine

namespace Sys2Proof.Safety

open Sys2Proof.Machine

/-- Settles O16: the take is one step; a command that waits has moved without a response (`Proceeds.latched`); an event that
runs nothing is ignored or a take (`latched_step_of_idle`). -/
theorem takeClearsOnlyValid : Obligations.TakeClearsOnlyValid := by
  refine ⟨?_, ?_, ?_⟩
  · intro s rest hok hp _ hi
    rw [step_taking hok hp hi]
    rfl
  · intro i s u hs hexec hwait
    exact (latched_eq_iff.mp ((Proceeds.exec hs hexec).latched hwait)).2
  · intro s u x rest hp hi hx hcmd hstep
    exact (latched_eq_iff.mp (latched_step_of_idle hp hi hx hcmd hstep)).2

/-- Settles O51: a command stays under the rule it starts with, and that rule is CALIBRATE's for CALIBRATE alone. -/
theorem onlyCalibrateMovesCalibrationState : Obligations.OnlyCalibrateMovesCalibrationState := by
  intro i s u hs hexec
  have hmove := Proceeds.exec hs hexec
  refine ⟨hmove.curCw, fun hi => calRegs_eq_iff.mp ?_⟩
  rw [runsCalibrate_startOf hi] at hmove
  exact hmove.calRegs

/-- Settles O13: no command running and no response pending is `cmd_ready = 1`, and then the step accepts the word. -/
theorem stepRunsAcceptedCommand : Obligations.StepRunsAcceptedCommand := by
  intro s cw rest hok hp hbusy hvalid hi
  exact step_accepts hok hp ((cmdReady_iff s).mpr ⟨hbusy, hvalid⟩) hi

/-- Settles O14: the state with the word placed is one that accepts it. -/
theorem tableWordRunsNext : Obligations.TableWordRunsNext := by
  intro s nbits w i hok hdecode
  rw [← decode_of_decodeTableWord hdecode]
  exact step_accepts (s := s.withFetchWord nbits w) hok rfl rfl rfl

/-- Settles O54: the two tables are read off, and the bound holds status by status. -/
theorem outputCodes : Obligations.OutputCodes := by
  refine ⟨rfl, rfl, fun x => ?_⟩
  cases x <;> decide

end Sys2Proof.Safety
end

section
/-! PROOF. The frame discipline (spec/20_memory.md R47, spec/41_transaction.md R96). What a rule does between two of its
transactions says nothing to the bus (`Onward`), so a frame holds only what the transaction itself emits; the point a command
waits at says how far its frame has come (`frameAt`). -/

namespace Sys2Proof.Safety

open Sys2Proof.Machine

/-! ### What a rule does outside its transactions -/

/-- `u` has the parameters, the chip-select and the events of `s`. -/
def BusKept (s u : State) : Prop := u.params = s.params ∧ u.cs = s.cs ∧ u.trace = s.trace

/-- All that a rule can do next where no transaction of it runs: respond, await a time sample or a delay of its poll, or begin a
transaction. -/
inductive Onward (s : State) : State → Prop
  | responds {t : State} (h : BusKept s t) (st : RspStatus) (d : U32) : Onward s (respond st d t)
  | samples {t : State} (h : BusKept s t) {phase : CalPhase} {p : Point} (hp : IsPoll phase p) :
      Onward s (awaitAt p (emit .now t))
  | delays {t : State} (h : BusKept s t) (ms : U32) {phase : CalPhase} {p : Point} (hp : IsPoll phase p) :
      Onward s (awaitAt p (emit (.delay ms) t))
  | transacts {t : State} (h : BusKept s t) (x : Transaction) (k : Cont) : Onward s (beginTransact x k t)

theorem BusKept.refl (s : State) : BusKept s s := ⟨rfl, rfl, rfl⟩

theorem BusKept.storeImage (x : Image) (v : Byte) (s : State) : BusKept s (storeImage x v s) :=
  ⟨storeImage_params x v s, storeImage_cs x v s, storeImage_trace x v s⟩

theorem BusKept.refreshImage (t : Transaction) (bs : List Byte) (s : State) : BusKept s (refreshImage t bs s) := by
  unfold Machine.refreshImage
  split
  · rw [updateImageOnRead_eq]
    exact ⟨rfl, rfl, rfl⟩
  · exact .refl s

theorem BusKept.trans {s t u : State} (hst : BusKept s t) (htu : BusKept t u) : BusKept s u := by
  obtain ⟨hp, hc, ht⟩ := hst
  obtain ⟨hp', hc', ht'⟩ := htu
  exact ⟨hp'.trans hp, hc'.trans hc, ht'.trans ht⟩

theorem BusKept.setCalState (c : CalState) (s : State) : BusKept s (setCalState c s) := ⟨rfl, rfl, rfl⟩

theorem BusKept.onward {s t u : State} (hst : BusKept s t) (htu : Onward t u) : Onward s u := by
  cases htu with
  | responds h st d => exact .responds (hst.trans h) st d
  | samples h hp => exact .samples (hst.trans h) hp
  | delays h ms hp => exact .delays (hst.trans h) ms hp
  | transacts h x k => exact .transacts (hst.trans h) x k

theorem Onward.respond (st : RspStatus) (d : U32) (s : State) : Onward s (respond st d s) := .responds (.refl s) st d

theorem Onward.respond_setCalState (c : CalState) (st : RspStatus) (d : U32) (s : State) :
    Onward s (Machine.respond st d (setCalState c s)) :=
  .responds (.setCalState c s) st d

theorem Onward.beginTransact (t : Transaction) (k : Cont) (s : State) : Onward s (beginTransact t k s) :=
  .transacts (.refl s) t k

theorem Onward.configWrite (a : RegAddr) (x : Image) (v : Byte) (k : Cont) (s : State) :
    Onward s (configWrite a x v k s) :=
  .transacts (.storeImage x v s) _ k

theorem Onward.requestCal (phase : CalPhase) (s : State) : Onward s (requestCal phase s) :=
  (BusKept.setCalState (requestState phase) s).onward (.configWrite _ _ _ _ _)

theorem Onward.startInitStage (stage : InitStage) (s : State) : Onward s (startInitStage stage s) := by
  cases stage with
  | io => exact .configWrite _ _ _ _ s
  | filter => exact .configWrite _ _ _ _ s
  | control => exact .configWrite _ _ _ _ s
  | mode => exact .configWrite _ _ _ _ s

/-- Every command starts so. -/
theorem Onward.start {f : State → State} (h : Start f) (s : State) : Onward s (f s) := by
  cases h with
  | illegal => exact .respond _ _ s
  | write a _ => exact .beginTransact _ _ s
  | read a _ => exact .beginTransact _ _ s
  | config _ v => exact .configWrite _ _ _ _ s
  | init => exact BusKept.onward (t := zeroImages s) ⟨rfl, rfl, rfl⟩ (.startInitStage .io _)
  | calibrate timeout =>
    exact BusKept.onward (t := { s with pollLimit := minU32 timeout s.params.calHardLimitMs }) ⟨rfl, rfl, rfl⟩
      (.requestCal .zero _)
  | readConv => exact .beginTransact _ _ s
  | probe => exact .beginTransact _ _ s

theorem Onward.respondResult (r : TxnResult) (s : State) : Onward s (respondResult r s) := by
  cases r with
  | ok bs => exact .respond _ _ s
  | err => exact .respond _ _ s

theorem Onward.afterInit (stage : InitStage) (r : TxnResult) (s : State) : Onward s (afterInit stage r s) := by
  cases r with
  | err => exact .respond _ _ s
  | ok bs =>
    simp only [Machine.afterInit]
    split
    · exact .startInitStage _ s
    · exact .respond _ _ s

theorem Onward.afterCalRequest (phase : CalPhase) (r : TxnResult) (s : State) : Onward s (afterCalRequest phase r s) := by
  cases r with
  | err => exact .respond_setCalState _ _ _ s
  | ok bs => exact .samples (.setCalState (awaitState phase) s) (.start (phase := phase))

theorem Onward.afterCalPoll (phase : CalPhase) (r : TxnResult) (s : State) : Onward s (afterCalPoll phase r s) := by
  cases r with
  | err => exact .respond_setCalState _ _ _ s
  | ok bs =>
    simp only [Machine.afterCalPoll]
    split
    · cases phase with
      | zero => exact .requestCal .full s
      | full => exact .respond_setCalState _ _ _ s
    · exact .samples (.refl s) (.time (phase := phase))

/-- Every rule goes on so when its transaction returns. -/
theorem Onward.returnTo (k : Cont) (r : TxnResult) (s : State) : Onward s (returnTo k r s) := by
  cases k with
  | rawWrite => exact .respondResult r s
  | config => exact .respondResult r s
  | rawRead => cases r <;> exact .respond _ _ s
  | readConv => cases r <;> exact .respond _ _ s
  | probe => cases r <;> exact .respond _ _ s
  | init stage => exact .afterInit stage r s
  | calRequest phase => exact .afterCalRequest phase r s
  | calPoll phase => exact .afterCalPoll phase r s

theorem Onward.pollRead (phase : CalPhase) (s : State) : Onward s (pollRead phase s) := .beginTransact _ _ s

theorem Onward.answerPollStart (phase : CalPhase) (t : U32) (s : State) : Onward s (answerPollStart phase t s) :=
  BusKept.onward (t := { s with pollStart := t }) ⟨rfl, rfl, rfl⟩ (.pollRead phase _)

theorem Onward.answerPollTime (phase : CalPhase) (t : U32) (s : State) : Onward s (answerPollTime phase t s) := by
  unfold Machine.answerPollTime
  split
  · exact .respond_setCalState _ _ _ s
  · split
    · exact .pollRead phase s
    · exact .delays (.refl s) _ (.delay (phase := phase))

/-! ### The frame automaton -/

theorem frameRun_concat {p : Params} {f g h : FramePoint} {ev : List PortEvent} {e : PortEvent}
    (hrun : frameRun p f ev = some g) (hstep : frameStep p g e = some h) : frameRun p f (ev ++ [e]) = some h := by
  induction ev generalizing f with
  | nil =>
    cases hrun
    simp [frameRun, hstep]
  | cons e' ev ih =>
    simp only [List.cons_append, frameRun] at hrun ⊢
    split at hrun
    · exact ih hrun
    · cases hrun

/-- The command byte shows its direction bit, whatever the layout (R69). -/
theorem rw_eq_of_commByte_eq {l : CommLayout} {a a' : RegAddr} {rw rw' wen wen' : Bool}
    (h : commByte l a rw wen = commByte l a' rw' wen') : rw = rw' := by
  cases l with
  | doc =>
    have hbit : ∀ (a : RegAddr) (rw wen : Bool), getBit (commByte .doc a rw wen) 1 = rw := by decide
    rw [← hbit a rw wen, h, hbit]
  | datasheet =>
    have hbit : ∀ (a : RegAddr) (rw wen : Bool), getBit (commByte .datasheet a rw wen) 6 = rw := by decide
    rw [← hbit a rw wen, h, hbit]

theorem isCommandByte_commByte (p : Params) (a : RegAddr) (rw rw' : Bool) :
    isCommandByte p rw' (commByte p.commLayout a rw false) = decide (rw' = rw) := by
  unfold isCommandByte
  rw [decide_eq_decide]
  constructor
  · rintro ⟨a', h⟩
    exact (rw_eq_of_commByte_eq h).symm
  · rintro rfl
    exact ⟨a, rfl⟩

/-- The address phase's BusOut tells the frame its direction (R70). -/
theorem frameStep_commandByte (p : Params) (a : RegAddr) (rw : Bool) (ms : U32) :
    frameStep p .selected (.busOut [commByte p.commLayout a rw false] ms) = some (.addressed rw) := by
  cases rw <;> simp [frameStep, isCommandByte_commByte]

/-- The data phase's request is of the command byte's direction (R47, R90). -/
theorem frameStep_dataRequest (p : Params) (t : Transaction) (s : State) :
    frameStep p (.addressed (directionBit t.dir)) (dataRequest t s) = some .dataRequested := by
  unfold dataRequest
  cases t.dir <;> rfl

/-! ### A command's events run through the automaton -/

/-- How far the frame has come at the point a command waits at; no frame is open where none runs. -/
def frameAt : Option Point → FramePoint
  | some (.addrPhase t _) => .addressed (directionBit t.dir)
  | some (.dataPhase _ _) => .dataRequested
  | some (.pollStart _) => .outside
  | some (.pollTime _) => .outside
  | some (.pollDelay _) => .outside
  | none => .outside

theorem frameAt_of_isPoll {phase : CalPhase} {p : Point} (h : IsPoll phase p) : frameAt (some p) = .outside := by
  cases h with
  | _ => rfl

/-- From `s`, outside a frame, to `u` the block has emitted a disciplined run of events that stands at `f`, and chip-select is
asserted exactly inside a frame. -/
structure InFrame (s : State) (f : FramePoint) (u : State) : Prop where
  params : u.params = s.params
  closed : u.cs = false ↔ f = .outside
  run : ∃ ev, u.trace = s.trace ++ ev ∧ frameRun s.params .outside ev = some f

/-- The events are disciplined up to the point at which `u` waits. -/
def Disciplined (s u : State) : Prop := InFrame s (frameAt u.point) u

theorem InFrame.start {s : State} (hcs : s.cs = false) : InFrame s .outside s :=
  ⟨rfl, iff_of_true hcs rfl, [], by simp, rfl⟩

theorem InFrame.kept {s u v : State} {f : FramePoint} (h : InFrame s f u) (huv : BusKept u v) : InFrame s f v := by
  obtain ⟨hparams, hcs, ⟨ev, htrace, hrun⟩⟩ := h
  obtain ⟨hp, hc, ht⟩ := huv
  exact ⟨hp.trans hparams, by rw [hc, hcs], ev, by rw [ht, htrace], hrun⟩

/-- One more event that the frame admits, with the chip-select that the next frame point has. -/
theorem InFrame.event {s u v : State} {f g : FramePoint} {e : PortEvent} (h : InFrame s f u)
    (hstep : frameStep u.params f e = some g) (hparams : v.params = u.params) (htrace : v.trace = u.trace ++ [e])
    (hcs : v.cs = false ↔ g = .outside) : InFrame s g v := by
  obtain ⟨hp, -, ⟨ev, ht, hrun⟩⟩ := h
  rw [hp] at hstep
  exact ⟨hparams.trans hp, hcs, ev ++ [e], by simp [htrace, ht], frameRun_concat hrun hstep⟩

/-- A time sample, a delay or a response leaves the run outside a frame (R51). -/
theorem InFrame.emit_outside {s u : State} {e : PortEvent} (h : InFrame s .outside u)
    (he : frameStep u.params .outside e = some .outside) : InFrame s .outside (emit e u) :=
  h.event he rfl rfl h.closed

/-- A frame that has sent its command byte can end, with or without its data phase (R91, R101). -/
theorem InFrame.endFrame {s u : State} {f : FramePoint} (h : InFrame s f u)
    (hf : frameStep u.params f (.setCS false) = some .outside) : InFrame s .outside (setCS false u) :=
  h.event hf rfl rfl (iff_of_true rfl rfl)

/-- A transaction opens a frame and sends the command byte (R90). -/
theorem Disciplined.beginTransact {s u : State} (h : InFrame s .outside u) (t : Transaction) (k : Cont) :
    Disciplined s (beginTransact t k u) := by
  have hstore := h.kept (.storeImage .comm (transactionByte t false u) u)
  have hselected : InFrame s .selected (setCS true (storeImage .comm (transactionByte t false u) u)) :=
    hstore.event (e := .setCS true) rfl rfl rfl (iff_of_false Bool.noConfusion nofun)
  exact hselected.event (frameStep_commandByte _ t.addr (directionBit t.dir) u.params.busTimeoutMs) rfl rfl
    (iff_of_false Bool.noConfusion nofun)

theorem Disciplined.await_poll {s u : State} {e : PortEvent} (h : InFrame s .outside u)
    (he : frameStep u.params .outside e = some .outside) {phase : CalPhase} {p : Point} (hp : IsPoll phase p) :
    Disciplined s (awaitAt p (emit e u)) := by
  have hout : InFrame s .outside (awaitAt p (emit e u)) := (h.emit_outside he).kept ⟨rfl, rfl, rfl⟩
  rw [← frameAt_of_isPoll hp] at hout
  exact hout

theorem Disciplined.onward {s u v : State} (h : InFrame s .outside u) (huv : Onward u v) : Disciplined s v := by
  cases huv with
  | responds hk st d => exact ((h.kept hk).emit_outside (e := .respond st d) rfl).kept ⟨rfl, rfl, rfl⟩
  | samples hk hp => exact .await_poll (h.kept hk) rfl hp
  | delays hk ms hp => exact .await_poll (h.kept hk) rfl hp
  | transacts hk t k => exact .beginTransact (h.kept hk) t k

theorem Disciplined.at_point {s u : State} {p : Point} (h : Disciplined s u) (hp : u.point = some p) :
    InFrame s (frameAt (some p)) u := hp ▸ h

theorem Disciplined.answerAddrPhase {s u : State} {t : Transaction} (h : InFrame s (.addressed (directionBit t.dir)) u)
    (k : Cont) (r : BusAnswer) : Disciplined s (answerAddrPhase t k r u) := by
  have hstore := h.kept (.storeImage .comm (transactionByte t true u) u)
  have hend := hstore.endFrame (by cases t.dir <;> rfl)
  cases r with
  | err => exact .onward hend (.returnTo k _ _)
  | ok l =>
    simp only [Machine.answerAddrPhase]
    split
    · exact .onward hend (.returnTo k _ _)
    · exact hstore.event (frameStep_dataRequest _ t u) rfl rfl (iff_of_false (fun hc => nomatch hstore.closed.mp hc) nofun)

theorem Disciplined.answerDataPhase {s u : State} (h : InFrame s .dataRequested u) (t : Transaction) (k : Cont)
    (r : BusAnswer) : Disciplined s (answerDataPhase t k r u) := by
  have hend := h.endFrame rfl
  cases r with
  | err => exact .onward hend (.returnTo k _ _)
  | ok l =>
    simp only [Machine.answerDataPhase]
    split
    · exact .onward hend (.returnTo k _ _)
    · exact .onward (hend.kept (.refreshImage t _ _)) (.returnTo k _ _)

/-- Every event of the environment but a reset keeps the discipline. -/
theorem Disciplined.reaction {s u v : State} {x : Input} (h : Disciplined s u) (hr : Reaction u x v) (hx : x ≠ .reset) :
    Disciplined s v := by
  cases hr with
  | ignored => exact h
  | taken => exact InFrame.kept h ⟨rfl, rfl, rfl⟩
  | reset => exact absurd rfl hx
  | addrPhase hp r => exact .answerAddrPhase (h.at_point hp) _ r
  | dataPhase hp r => exact .answerDataPhase (h.at_point hp) _ _ r
  | pollStart hp t => exact .onward (h.at_point hp) (.answerPollStart _ t u)
  | pollTime hp t => exact .onward (h.at_point hp) (.answerPollTime _ t u)
  | pollDelay hp => exact .onward (h.at_point hp) (.pollRead _ u)

theorem Disciplined.withInputs {s u : State} (h : Disciplined s u) (xs : List Input) : Disciplined s (withInputs xs u) :=
  InFrame.kept h ⟨rfl, rfl, rfl⟩

theorem Disciplined.settle {s u : State} {xs : List Input} (h : Disciplined s u) (hxs : noReset xs) :
    Disciplined s (settle xs u) := by
  induction xs generalizing u with
  | nil => exact h.withInputs []
  | cons x xs ih =>
    obtain ⟨hx, hrest⟩ : Input.reset ≠ x ∧ Input.reset ∉ xs := List.ne_and_not_mem_of_not_mem_cons hxs
    cases hp : u.point with
    | none =>
      rw [settle_ended hp]
      exact h.withInputs (x :: xs)
    | some p =>
      rw [settle_running (by simp [hp])]
      exact ih (h.reaction (reaction_react x u) hx.symm) hrest

theorem Disciplined.exec {i : Instr} {s u : State} (hs : noReset s.inputs) (hcs : s.cs = false)
    (h : exec i s = .next u) : Disciplined s u := by
  rw [exec_eq_settle] at h
  cases h
  exact (Disciplined.onward (.start hcs) (.start (start_startOf i) s)).settle hs

/-- Settles O50: a command starts outside a frame, and every answer moves the frame as its point does (`Disciplined`). -/
theorem framesAreDisciplined : Obligations.FramesAreDisciplined := by
  intro i s u hs hcs hexec
  have hdisc := Disciplined.exec hs hcs hexec
  obtain ⟨ev, htrace, hrun⟩ := hdisc.run
  exact ⟨ev, frameAt u.point, htrace, hrun, hdisc.closed, fun hp => by rw [hp]; rfl⟩

end Sys2Proof.Safety
end

section
/-! PROOF. The command word (spec/30_encoding.md R57 to R68). The decoder is said once as a relation, `DecodesAs cw i`: one rule per
value of OP, and for WRITE_REG and READ_REG one rule per row of their words (`WriteRow`, `ReadRow`). It is the decoder's graph
(`DecodesAs.decode_eq`, `decodesAs_decode`), and the statements about words are case splits over its rules. -/

namespace Sys2Proof

open Sys2Proof.Safety

/-! ### The rows of WRITE_REG's and READ_REG's words -/

/-- What a word with OP = 0x2 decodes to, by its other fields (R59, R60, R73, R140). -/
inductive WriteRow (a : RegAddr) (n : BitVec 3) (arg : U32) : Instr → Prop
  | selectW (hn : n = 0#3) : WriteRow a n arg (.selectW a)
  | writeReg (hpos : 1 ≤ n.toNat) (hle : n.toNat ≤ 4) {arg' : U32} (harg : keepArgBytes n arg = arg') :
      WriteRow a n arg (.writeReg a n arg')
  | illegalLen57 (bit9 : Bool) (hn : n = lenOf true bit9 true) : WriteRow a n arg (.illegalWriteRegLen57 bit9)
  | illegalLen6 (hn : n = lenOf true true false) : WriteRow a n arg (.illegalWriteRegLen67 false)

/-- What a word with OP = 0x3 decodes to, by its other fields (R59, R73, R140). -/
inductive ReadRow (a : RegAddr) (n : BitVec 3) : Instr → Prop
  | selectR (hn : n = 0#3) : ReadRow a n (.selectR a)
  | readStatus (hn : n = 1#3) (ha : a = 0#4) : ReadRow a n .readStatus
  | readMode (hn : n = 1#3) (ha : a = 1#4) : ReadRow a n .readMode
  | readControl (hn : n = 1#3) (ha : a = 2#4) : ReadRow a n .readControl
  | readId (hn : n = 1#3) (ha : a = 15#4) : ReadRow a n .readId
  | readReg (hpos : 1 ≤ n.toNat) (hle : n.toNat ≤ 4) (hrow : n = 1#3 → hasReadRow a = false) :
      ReadRow a n (.readReg a n)
  | illegalLen57 (bit9 : Bool) (hn : n = lenOf true bit9 true) : ReadRow a n (.illegalReadRegLen57 bit9)
  | illegalLen6 (hn : n = lenOf true true false) : ReadRow a n (.illegalReadRegLen67 false)

/-- The four kinds of LEN: no data phase, a legal length, LEN 5 or 7, LEN 6. -/
theorem len_cases : ∀ n : BitVec 3,
    n = 0#3 ∨ (1 ≤ n.toNat ∧ n.toNat ≤ 4) ∨ (∃ bit9, n = lenOf true bit9 true) ∨ n = lenOf true true false := by
  decide

/-- The addresses with a one-byte read row of their own, and the others. -/
theorem readRow_addr_cases : ∀ a : RegAddr, a = 0#4 ∨ a = 1#4 ∨ a = 2#4 ∨ a = 15#4 ∨ hasReadRow a = false := by
  decide

theorem WriteRow.total (a : RegAddr) (n : BitVec 3) (arg : U32) : ∃ i, WriteRow a n arg i := by
  rcases len_cases n with h | ⟨hpos, hle⟩ | ⟨bit9, h⟩ | h
  · exact ⟨_, .selectW h⟩
  · exact ⟨_, .writeReg hpos hle rfl⟩
  · exact ⟨_, .illegalLen57 bit9 h⟩
  · exact ⟨_, .illegalLen6 h⟩

theorem ReadRow.total (a : RegAddr) (n : BitVec 3) : ∃ i, ReadRow a n i := by
  rcases len_cases n with h | ⟨hpos, hle⟩ | ⟨bit9, h⟩ | h
  · exact ⟨_, .selectR h⟩
  · by_cases hn : n = 1#3
    · rcases readRow_addr_cases a with ha | ha | ha | ha | ha
      · exact ⟨_, .readStatus hn ha⟩
      · exact ⟨_, .readMode hn ha⟩
      · exact ⟨_, .readControl hn ha⟩
      · exact ⟨_, .readId hn ha⟩
      · exact ⟨_, .readReg hpos hle fun _ => ha⟩
    · exact ⟨_, .readReg hpos hle fun h => absurd h hn⟩
  · exact ⟨_, .illegalLen57 bit9 h⟩
  · exact ⟨_, .illegalLen6 h⟩

theorem decodeWrite_of_legal (a : RegAddr) {n : BitVec 3} (arg : U32) (hpos : 1 ≤ n.toNat) (hle : n.toNat ≤ 4) :
    decodeWrite a n arg = .writeReg a n (keepArgBytes n arg) := by
  unfold decodeWrite
  split
  case h_5 => rfl
  all_goals omega

theorem decodeReadByte_of_noRow : ∀ {a : RegAddr}, hasReadRow a = false → decodeReadByte a = .readReg a 1#3 := by
  decide

theorem decodeRead_of_legal {a : RegAddr} {n : BitVec 3} (hpos : 1 ≤ n.toNat) (hle : n.toNat ≤ 4)
    (hrow : n = 1#3 → hasReadRow a = false) : decodeRead a n = .readReg a n := by
  by_cases hn : n = 1#3
  · subst hn
    exact decodeReadByte_of_noRow (hrow rfl)
  · have hne : n.toNat ≠ 1 := fun h => hn (BitVec.eq_of_toNat_eq h)
    unfold decodeRead
    split
    case h_6 => rfl
    all_goals omega

theorem WriteRow.decode_eq {a : RegAddr} {n : BitVec 3} {arg : U32} {i : Instr} (h : WriteRow a n arg i) :
    decodeWrite a n arg = i := by
  cases h with
  | selectW hn => subst hn; rfl
  | writeReg hpos hle harg => rw [decodeWrite_of_legal a arg hpos hle, harg]
  | illegalLen57 bit9 hn => subst hn; cases bit9 <;> rfl
  | illegalLen6 hn => subst hn; rfl

theorem ReadRow.decode_eq {a : RegAddr} {n : BitVec 3} {i : Instr} (h : ReadRow a n i) : decodeRead a n = i := by
  cases h with
  | selectR hn => subst hn; rfl
  | readStatus hn ha => subst hn ha; rfl
  | readMode hn ha => subst hn ha; rfl
  | readControl hn ha => subst hn ha; rfl
  | readId hn ha => subst hn ha; rfl
  | readReg hpos hle hrow => exact decodeRead_of_legal hpos hle hrow
  | illegalLen57 bit9 hn => subst hn; cases bit9 <;> rfl
  | illegalLen6 hn => subst hn; rfl

theorem writeRow_decodeWrite (a : RegAddr) (n : BitVec 3) (arg : U32) : WriteRow a n arg (decodeWrite a n arg) := by
  obtain ⟨i, h⟩ := WriteRow.total a n arg
  rwa [h.decode_eq]

theorem readRow_decodeRead (a : RegAddr) (n : BitVec 3) : ReadRow a n (decodeRead a n) := by
  obtain ⟨i, h⟩ := ReadRow.total a n
  rwa [h.decode_eq]

/-! ### The decoder as a relation -/

/-- What a command word decodes to, by its OP field (R58, R139). -/
inductive DecodesAs (cw : CommandWord) : Instr → Prop
  | illegalOp0 (hop : opField cw = 0x0#4) : DecodesAs cw .illegalOp0
  | init (hop : opField cw = 0x1#4) : DecodesAs cw .init
  | write {i : Instr} (hop : opField cw = 0x2#4)
      (h : WriteRow (addrField cw) (lenField cw) (argField cw) i) : DecodesAs cw i
  | read {i : Instr} (hop : opField cw = 0x3#4) (h : ReadRow (addrField cw) (lenField cw) i) : DecodesAs cw i
  | cfgMode (hop : opField cw = 0x4#4) {md : BitVec 3} {oscpd chcon refsel negbuf chop : Bool}
      (h : decodeMode (argField cw) = .cfgMode md oscpd chcon refsel negbuf chop) :
      DecodesAs cw (.cfgMode md oscpd chcon refsel negbuf chop)
  | cfgChannel (hop : opField cw = 0x5#4) {ch : BitVec 4} {rn : BitVec 3} {pol : Bool}
      (h : decodeChannel (argField cw) = .cfgChannel ch rn pol) : DecodesAs cw (.cfgChannel ch rn pol)
  | cfgFilter (hop : opField cw = 0x6#4) {sf : Byte} (h : (argField cw).extractLsb' 0 8 = sf) :
      DecodesAs cw (.cfgFilter sf)
  | cfgIo (hop : opField cw = 0x7#4) {p1dir p2dir : Bool} (h1 : (argField cw).getLsbD 0 = p1dir)
      (h2 : (argField cw).getLsbD 1 = p2dir) : DecodesAs cw (.cfgIo p1dir p2dir)
  | calibrate (hop : opField cw = 0x8#4) {timeout : U32} (h : argField cw = timeout) :
      DecodesAs cw (.calibrate timeout)
  | readConv (hop : opField cw = 0x9#4) : DecodesAs cw .readConv
  | probe (hop : opField cw = 0xA#4) : DecodesAs cw .probe
  | illegalOpB (hop : opField cw = 0xB#4) : DecodesAs cw .illegalOpB
  | illegalOpCF {low : BitVec 2} (hop : opField cw = 3#2 ++ low) : DecodesAs cw (.illegalOpCF low)

/-- The sixteen values of OP. -/
theorem op_cases : ∀ op : BitVec 4, op = 0x0#4 ∨ op = 0x1#4 ∨ op = 0x2#4 ∨ op = 0x3#4 ∨ op = 0x4#4 ∨ op = 0x5#4 ∨
    op = 0x6#4 ∨ op = 0x7#4 ∨ op = 0x8#4 ∨ op = 0x9#4 ∨ op = 0xA#4 ∨ op = 0xB#4 ∨
      ∃ low : BitVec 2, op = 3#2 ++ low := by
  decide

/-- Every word decodes to something (R57). -/
theorem DecodesAs.total (cw : CommandWord) : ∃ i, DecodesAs cw i := by
  rcases op_cases (opField cw) with h | h | h | h | h | h | h | h | h | h | h | h | ⟨low, h⟩
  · exact ⟨_, .illegalOp0 h⟩
  · exact ⟨_, .init h⟩
  · exact ⟨_, .write h (writeRow_decodeWrite _ _ _)⟩
  · exact ⟨_, .read h (readRow_decodeRead _ _)⟩
  · exact ⟨_, .cfgMode h rfl⟩
  · exact ⟨_, .cfgChannel h rfl⟩
  · exact ⟨_, .cfgFilter h rfl⟩
  · exact ⟨_, .cfgIo h rfl rfl⟩
  · exact ⟨_, .calibrate h rfl⟩
  · exact ⟨_, .readConv h⟩
  · exact ⟨_, .probe h⟩
  · exact ⟨_, .illegalOpB h⟩
  · exact ⟨_, .illegalOpCF h⟩

theorem decode_of_op_write {cw : CommandWord} (hop : opField cw = 0x2#4) :
    decode cw = decodeWrite (addrField cw) (lenField cw) (argField cw) := by simp [decode, hop]

theorem decode_of_op_read {cw : CommandWord} (hop : opField cw = 0x3#4) :
    decode cw = decodeRead (addrField cw) (lenField cw) := by simp [decode, hop]

theorem decode_of_opCF {cw : CommandWord} {low : BitVec 2} (hop : opField cw = 3#2 ++ low) :
    decode cw = .illegalOpCF low := by
  have hall : ∀ low : BitVec 2, 12 ≤ (3#2 ++ low).toNat ∧ (3#2 ++ low).extractLsb' 0 2 = low := by decide
  obtain ⟨hge, hlow⟩ := hall low
  unfold decode
  rw [hop]
  split
  case h_13 => rw [hlow]
  all_goals omega

theorem DecodesAs.decode_eq {cw : CommandWord} {i : Instr} (h : DecodesAs cw i) : decode cw = i := by
  cases h with
  | illegalOp0 hop => simp [decode, hop]
  | init hop => simp [decode, hop]
  | write hop h => rw [decode_of_op_write hop, h.decode_eq]
  | read hop h => rw [decode_of_op_read hop, h.decode_eq]
  | cfgMode hop h => simp [decode, hop, h]
  | cfgChannel hop h => simp [decode, hop, h]
  | cfgFilter hop h => simp [decode, hop, h]
  | cfgIo hop h1 h2 => simp [decode, hop, ← h1, ← h2]
  | calibrate hop h => simp [decode, hop, h]
  | readConv hop => simp [decode, hop]
  | probe hop => simp [decode, hop]
  | illegalOpB hop => simp [decode, hop]
  | illegalOpCF hop => exact decode_of_opCF hop

theorem decodesAs_decode (cw : CommandWord) : DecodesAs cw (decode cw) := by
  obtain ⟨i, h⟩ := DecodesAs.total cw
  rwa [h.decode_eq]

/-! ### ARG's sub-layouts -/

/-- The bytes kept of ARG are those under the mask of the bytes used (R60). -/
theorem keepArgBytes_eq_and (n : BitVec 3) (arg : U32) : keepArgBytes n arg = arg &&& usedArgMask n := by
  have hmask : ∀ n : BitVec 3, BitVec.ofNat 32 (2 ^ (8 * n.toNat) - 1) = usedArgMask n := by decide
  rw [keepArgBytes, hmask]

/-- A mask keeps a value whole that has no bit outside it. -/
theorem and_eq_self_of_and_not_eq_zero {w : Nat} {v mask : BitVec w} (h : v &&& ~~~mask = 0#w) : v &&& mask = v := by
  ext i hi
  have hbit : v[i] = true → mask[i] = true := by simpa [hi] using congrArg (·.getLsbD i) h
  simpa using hbit

/-- `getLsbD_argBit` in the form that an index with its bound takes. -/
@[simp] theorem getElem_argBit (i j : Nat) (b : Bool) (hi : i < 32) (hj : j < 32) :
    (argBit i b)[j] = (b && decide (j = i)) := by
  rw [← BitVec.getLsbD_eq_getElem hj, getLsbD_argBit i j b hi]

theorem decodeMode_modeArg (md : BitVec 3) (oscpd chcon refsel negbuf chop : Bool) :
    decodeMode (modeArg md oscpd chcon refsel negbuf chop) = .cfgMode md oscpd chcon refsel negbuf chop := by
  have hmd : (modeArg md oscpd chcon refsel negbuf chop).extractLsb' 0 3 = md := by
    ext i hi
    have h32 : i < 32 := by omega
    have hne : ∀ j, 8 ≤ j → i ≠ j := by omega
    simp [modeArg, hi, h32, hne]
  simp only [decodeMode, hmd]
  simp [modeArg]

theorem decodeChannel_channelArg (ch : BitVec 4) (rn : BitVec 3) (pol : Bool) :
    decodeChannel (channelArg ch rn pol) = .cfgChannel ch rn pol := by
  have hch : (channelArg ch rn pol).extractLsb' 0 4 = ch := by
    ext i hi
    have h8 : i < 8 := by omega
    have h32 : i < 32 := by omega
    have h16 : i ≠ 16 := by omega
    simp [channelArg, hi, h8, h32, h16]
  have hrn : (channelArg ch rn pol).extractLsb' 8 3 = rn := by
    ext i hi
    have h32 : 8 + i < 32 := by omega
    have h16 : 8 + i ≠ 16 := by omega
    have hbeyond : ch.getLsbD (8 + i) = false := BitVec.getLsbD_of_ge _ _ (by omega)
    simp [channelArg, hi, h32, h16, hbeyond]
  simp only [decodeChannel, hch, hrn]
  simp [channelArg]

theorem extractLsb'_setWidth_byte (sf : Byte) : (sf.setWidth 32).extractLsb' 0 8 = sf := by
  rw [← BitVec.setWidth_eq_extractLsb' (by decide), BitVec.setWidth_setWidth_of_le sf (by decide), BitVec.setWidth_eq]

/-! ### Encoded words -/

/-- The word of a well-formed command decodes as that command. -/
theorem decodesAs_encode {i : Instr} (h : i.wf = true) : DecodesAs (encode i) i := by
  cases i with
  | init => exact .init (by simp [encode])
  | writeReg a n arg =>
    obtain ⟨⟨hpos, hle⟩, harg⟩ : (1 ≤ n.toNat ∧ n.toNat ≤ 4) ∧ arg &&& ~~~usedArgMask n = 0#32 := by
      simpa [Instr.wf] using h
    have hkeep : keepArgBytes n arg = arg := by
      rw [keepArgBytes_eq_and, and_eq_self_of_and_not_eq_zero harg]
    exact .write (by simp [encode]) (by simpa [encode] using .writeReg hpos hle hkeep)
  | readReg a n =>
    obtain ⟨⟨hpos, hle⟩, hrow⟩ : (1 ≤ n.toNat ∧ n.toNat ≤ 4) ∧ (n = 1#3 → hasReadRow a = false) := by
      simpa [Instr.wf, ← imp_iff_not_or] using h
    exact .read (by simp [encode]) (by simpa [encode] using .readReg hpos hle hrow)
  | cfgMode md b8 b9 b10 b11 b12 =>
    exact .cfgMode (by simp [encode]) (by simp [encode, decodeMode_modeArg])
  | cfgChannel ch rn pol => exact .cfgChannel (by simp [encode]) (by simp [encode, decodeChannel_channelArg])
  | cfgFilter sf => exact .cfgFilter (by simp [encode]) (by simp [encode, extractLsb'_setWidth_byte])
  | cfgIo p1dir p2dir => exact .cfgIo (by simp [encode]) (by simp [encode]) (by simp [encode])
  | calibrate timeout => exact .calibrate (by simp [encode]) (by simp [encode])
  | readConv => exact .readConv (by simp [encode])
  | probe => exact .probe (by simp [encode])
  | selectW a => exact .write (by simp [encode]) (by simpa [encode] using .selectW rfl)
  | selectR a => exact .read (by simp [encode]) (by simpa [encode] using .selectR rfl)
  | readStatus => exact .read (by simp [encode]) (by simpa [encode] using .readStatus rfl rfl)
  | readMode => exact .read (by simp [encode]) (by simpa [encode] using .readMode rfl rfl)
  | readControl => exact .read (by simp [encode]) (by simpa [encode] using .readControl rfl rfl)
  | readId => exact .read (by simp [encode]) (by simpa [encode] using .readId rfl rfl)
  | illegalOp0 => exact .illegalOp0 (by simp [encode])
  | illegalOpB => exact .illegalOpB (by simp [encode])
  | illegalOpCF low => exact .illegalOpCF (by simp [encode])
  | illegalWriteRegLen57 b => exact .write (by simp [encode]) (by simpa [encode] using .illegalLen57 b rfl)
  | illegalWriteRegLen67 b =>
    obtain rfl : b = false := by simpa [Instr.wf] using h
    exact .write (by simp [encode]) (by simpa [encode] using .illegalLen6 rfl)
  | illegalReadRegLen57 b => exact .read (by simp [encode]) (by simpa [encode] using .illegalLen57 b rfl)
  | illegalReadRegLen67 b =>
    obtain rfl : b = false := by simpa [Instr.wf] using h
    exact .read (by simp [encode]) (by simpa [encode] using .illegalLen6 rfl)

/-! ### What is decoded is well formed -/

theorem WriteRow.wf {a : RegAddr} {n : BitVec 3} {arg : U32} {i : Instr} (h : WriteRow a n arg i) : i.wf = true := by
  cases h with
  | selectW _ => rfl
  | writeReg hpos hle harg =>
    have hcut : keepArgBytes n arg &&& ~~~usedArgMask n = 0#32 := by
      rw [keepArgBytes_eq_and, BitVec.and_assoc, BitVec.and_not_self]
      exact BitVec.and_zero
    simp [Instr.wf, hpos, hle, ← harg, hcut]
  | illegalLen57 _ _ => rfl
  | illegalLen6 _ => rfl

theorem ReadRow.wf {a : RegAddr} {n : BitVec 3} {i : Instr} (h : ReadRow a n i) : i.wf = true := by
  cases h with
  | readReg hpos hle hrow => simpa [Instr.wf, hpos, hle, ← imp_iff_not_or] using hrow
  | selectR _ => rfl
  | readStatus _ _ => rfl
  | readMode _ _ => rfl
  | readControl _ _ => rfl
  | readId _ _ => rfl
  | illegalLen57 _ _ => rfl
  | illegalLen6 _ => rfl

theorem DecodesAs.wf {cw : CommandWord} {i : Instr} (h : DecodesAs cw i) : i.wf = true := by
  cases h with
  | write _ h => exact h.wf
  | read _ h => exact h.wf
  | illegalOp0 _ => rfl
  | init _ => rfl
  | cfgMode _ _ => rfl
  | cfgChannel _ _ => rfl
  | cfgFilter _ _ => rfl
  | cfgIo _ _ _ => rfl
  | calibrate _ _ => rfl
  | readConv _ => rfl
  | probe _ => rfl
  | illegalOpB _ => rfl
  | illegalOpCF _ => rfl

/-! ### The illegal words -/

theorem toNat_opField (cw : CommandWord) : (opField cw).toNat = cw.toNat % 16 := by
  simp [opField]

theorem toNat_lenField (cw : CommandWord) : (lenField cw).toNat = cw.toNat / 256 % 8 := by
  simp [lenField, Nat.shiftRight_eq_div_pow]

theorem five_le_lenOf_57 : ∀ bit9 : Bool, 5 ≤ (lenOf true bit9 true).toNat := by decide

theorem five_le_lenOf_6 : 5 ≤ (lenOf true true false).toNat := by decide

theorem WriteRow.illegal_iff {a : RegAddr} {n : BitVec 3} {arg : U32} {i : Instr} (h : WriteRow a n arg i) :
    isIllegalRow i = true ↔ 5 ≤ n.toNat := by
  cases h with
  | selectW hn => simp [isIllegalRow, hn]
  | writeReg _ hle _ => simp only [isIllegalRow, Bool.false_eq_true, false_iff]; omega
  | illegalLen57 bit9 hn => simp [isIllegalRow, hn, five_le_lenOf_57 bit9]
  | illegalLen6 hn => simp [isIllegalRow, hn, five_le_lenOf_6]

theorem ReadRow.illegal_iff {a : RegAddr} {n : BitVec 3} {i : Instr} (h : ReadRow a n i) :
    isIllegalRow i = true ↔ 5 ≤ n.toNat := by
  cases h with
  | selectR hn => simp [isIllegalRow, hn]
  | readStatus hn _ => simp [isIllegalRow, hn]
  | readMode hn _ => simp [isIllegalRow, hn]
  | readControl hn _ => simp [isIllegalRow, hn]
  | readId hn _ => simp [isIllegalRow, hn]
  | readReg _ hle _ => simp only [isIllegalRow, Bool.false_eq_true, false_iff]; omega
  | illegalLen57 bit9 hn => simp [isIllegalRow, hn, five_le_lenOf_57 bit9]
  | illegalLen6 hn => simp [isIllegalRow, hn, five_le_lenOf_6]

/-- The fields of the illegal words (R68). -/
def IllegalFields (op : BitVec 4) (n : BitVec 3) : Prop :=
  op.toNat = 0 ∨ 11 ≤ op.toNat ∨ ((op.toNat = 2 ∨ op.toNat = 3) ∧ 5 ≤ n.toNat)

theorem DecodesAs.illegal_iff {cw : CommandWord} {i : Instr} (h : DecodesAs cw i) :
    isIllegalRow i = true ↔ IllegalFields (opField cw) (lenField cw) := by
  cases h with
  | write hop h => simp [IllegalFields, hop, h.illegal_iff]
  | read hop h => simp [IllegalFields, hop, h.illegal_iff]
  | illegalOp0 hop => simp [isIllegalRow, IllegalFields, hop]
  | init hop => simp [isIllegalRow, IllegalFields, hop]
  | cfgMode hop _ => simp [isIllegalRow, IllegalFields, hop]
  | cfgChannel hop _ => simp [isIllegalRow, IllegalFields, hop]
  | cfgFilter hop _ => simp [isIllegalRow, IllegalFields, hop]
  | cfgIo hop _ _ => simp [isIllegalRow, IllegalFields, hop]
  | calibrate hop _ => simp [isIllegalRow, IllegalFields, hop]
  | readConv hop => simp [isIllegalRow, IllegalFields, hop]
  | probe hop => simp [isIllegalRow, IllegalFields, hop]
  | illegalOpB hop => simp [isIllegalRow, IllegalFields, hop]
  | @illegalOpCF low hop =>
    have hge : ∀ low : BitVec 2, 11 ≤ (3#2 ++ low).toNat := by decide
    simp [isIllegalRow, IllegalFields, hop, hge low]

/-! ### The bits a word is read at -/

/-- Two values agree on the bits of a mask. -/
def AgreeOn {w : Nat} (mask v u : BitVec w) : Prop := ∀ i, mask.getLsbD i = true → v.getLsbD i = u.getLsbD i

theorem agreeOn_xor_of_and_eq_zero {w : Nat} {mask v m : BitVec w} (h : m &&& mask = 0#w) :
    AgreeOn mask v (v ^^^ m) := by
  intro i hi
  have hm : m.getLsbD i = false := by simpa [hi] using congrArg (·.getLsbD i) h
  simp [hm]

theorem AgreeOn.extract {w : Nat} {mask v u : BitVec w} (h : AgreeOn mask v u) (start n : Nat) :
    AgreeOn (mask.extractLsb' start n) (v.extractLsb' start n) (u.extractLsb' start n) := by
  intro i hi
  rw [BitVec.getLsbD_extractLsb', Bool.and_eq_true] at hi
  rw [BitVec.getLsbD_extractLsb', BitVec.getLsbD_extractLsb', h _ hi.2]

theorem AgreeOn.eq {w : Nat} {mask v u : BitVec w} (h : AgreeOn mask v u) (hmask : mask = BitVec.allOnes w) : v = u := by
  ext i hi
  simpa [hi] using h i (by simp [hmask, hi])

theorem AgreeOn.and_mask_eq {w : Nat} {mask v u : BitVec w} (h : AgreeOn mask v u) : v &&& mask = u &&& mask := by
  apply BitVec.eq_of_getLsbD_eq
  intro i _
  rw [BitVec.getLsbD_and, BitVec.getLsbD_and]
  cases hm : mask.getLsbD i with
  | false => simp
  | true => rw [h i hm]

/-- OP is always read; ADDR and LEN are read under OP 0x2 and 0x3 (R59). -/
theorem AgreeOn.opField_eq {op : BitVec 4} {n : BitVec 3} {cw cw' : CommandWord}
    (h : AgreeOn (usedBits op n) cw cw') : opField cw = opField cw' := by
  have hused : ∀ (op : BitVec 4) (n : BitVec 3), (usedBits op n).extractLsb' 0 4 = BitVec.allOnes 4 := by decide
  exact (h.extract 0 4).eq (hused op n)

theorem AgreeOn.addrField_eq {op : BitVec 4} {n : BitVec 3} {cw cw' : CommandWord} (hop : op = 0x2#4 ∨ op = 0x3#4)
    (h : AgreeOn (usedBits op n) cw cw') : addrField cw = addrField cw' := by
  have hused : ∀ n : BitVec 3, (usedBits 0x2#4 n).extractLsb' 4 4 = BitVec.allOnes 4 ∧
      (usedBits 0x3#4 n).extractLsb' 4 4 = BitVec.allOnes 4 := by decide
  rcases hop with rfl | rfl
  · exact (h.extract 4 4).eq (hused n).1
  · exact (h.extract 4 4).eq (hused n).2

theorem AgreeOn.lenField_eq {op : BitVec 4} {n : BitVec 3} {cw cw' : CommandWord} (hop : op = 0x2#4 ∨ op = 0x3#4)
    (h : AgreeOn (usedBits op n) cw cw') : lenField cw = lenField cw' := by
  have hused : ∀ n : BitVec 3, (usedBits 0x2#4 n).extractLsb' 8 3 = BitVec.allOnes 3 ∧
      (usedBits 0x3#4 n).extractLsb' 8 3 = BitVec.allOnes 3 := by decide
  rcases hop with rfl | rfl
  · exact (h.extract 8 3).eq (hused n).1
  · exact (h.extract 8 3).eq (hused n).2

/-- The bits of ARG that an operation reads (R60 to R66). -/
def usedArg (op : BitVec 4) (n : BitVec 3) : U32 :=
  match op.toNat with
  | 2 => usedArgMask n
  | 4 => 0x1F07#32
  | 5 => 0x1070F#32
  | 6 => 0xFF#32
  | 7 => 0x3#32
  | 8 => BitVec.allOnes 32
  | _ => 0#32

theorem argField_usedBits : ∀ (op : BitVec 4) (n : BitVec 3), argField (usedBits op n) = usedArg op n := by decide

theorem AgreeOn.argField {op : BitVec 4} {n : BitVec 3} {cw cw' : CommandWord} (h : AgreeOn (usedBits op n) cw cw') :
    AgreeOn (usedArg op n) (argField cw) (argField cw') :=
  argField_usedBits op n ▸ h.extract 16 32

/-- WRITE_REG reads the bytes of ARG below LEN (R60). -/
theorem AgreeOn.keepArgBytes_eq {n : BitVec 3} {v u : U32} (h : AgreeOn (usedArgMask n) v u) :
    keepArgBytes n v = keepArgBytes n u := by
  rw [keepArgBytes_eq_and, keepArgBytes_eq_and, h.and_mask_eq]

/-- CFG_MODE reads the mode code and the five flags (R61). -/
theorem AgreeOn.decodeMode_eq {v u : U32} (h : AgreeOn 0x1F07#32 v u) : decodeMode v = decodeMode u := by
  simp only [decodeMode, (h.extract 0 3).eq rfl, h 8 rfl, h 9 rfl, h 10 rfl, h 11 rfl, h 12 rfl]

/-- CFG_CHANNEL reads the channel code, the range code and the polarity (R62). -/
theorem AgreeOn.decodeChannel_eq {v u : U32} (h : AgreeOn 0x1070F#32 v u) : decodeChannel v = decodeChannel u := by
  simp only [decodeChannel, (h.extract 0 4).eq rfl, (h.extract 8 3).eq rfl, h 16 rfl]

theorem WriteRow.congr {a : RegAddr} {n : BitVec 3} {v u : U32} {i : Instr} (h : WriteRow a n v i)
    (hkeep : keepArgBytes n v = keepArgBytes n u) : WriteRow a n u i := by
  cases h with
  | selectW hn => exact .selectW hn
  | writeReg hpos hle harg => exact .writeReg hpos hle (hkeep ▸ harg)
  | illegalLen57 bit9 hn => exact .illegalLen57 bit9 hn
  | illegalLen6 hn => exact .illegalLen6 hn

/-- A word that agrees with another on the bits read decodes as that one does (R59, R66, R68). -/
theorem DecodesAs.congr {cw cw' : CommandWord} {i : Instr} (h : DecodesAs cw i)
    (hagree : AgreeOn (usedBits (opField cw) (lenField cw)) cw cw') : DecodesAs cw' i := by
  have hopEq : opField cw' = opField cw := hagree.opField_eq.symm
  cases h with
  | illegalOp0 hop => exact .illegalOp0 (hopEq.trans hop)
  | init hop => exact .init (hopEq.trans hop)
  | write hop h =>
    rw [hop] at hagree
    refine .write (hopEq.trans hop) ?_
    rw [← hagree.addrField_eq (.inl rfl), ← hagree.lenField_eq (.inl rfl)]
    exact h.congr (AgreeOn.keepArgBytes_eq hagree.argField)
  | read hop h =>
    rw [hop] at hagree
    refine .read (hopEq.trans hop) ?_
    rwa [← hagree.addrField_eq (.inr rfl), ← hagree.lenField_eq (.inr rfl)]
  | cfgMode hop h =>
    rw [hop] at hagree
    exact .cfgMode (hopEq.trans hop) ((AgreeOn.decodeMode_eq hagree.argField).symm.trans h)
  | cfgChannel hop h =>
    rw [hop] at hagree
    exact .cfgChannel (hopEq.trans hop) ((AgreeOn.decodeChannel_eq hagree.argField).symm.trans h)
  | cfgFilter hop h =>
    rw [hop] at hagree
    exact .cfgFilter (hopEq.trans hop) (((hagree.argField.extract 0 8).eq rfl).symm.trans h)
  | cfgIo hop h1 h2 =>
    rw [hop] at hagree
    have harg : AgreeOn 0x3#32 (argField cw) (argField cw') := hagree.argField
    exact .cfgIo (hopEq.trans hop) ((harg 0 rfl).symm.trans h1) ((harg 1 rfl).symm.trans h2)
  | calibrate hop h =>
    rw [hop] at hagree
    exact .calibrate (hopEq.trans hop) ((hagree.argField.eq rfl).symm.trans h)
  | readConv hop => exact .readConv (hopEq.trans hop)
  | probe hop => exact .probe (hopEq.trans hop)
  | illegalOpB hop => exact .illegalOpB (hopEq.trans hop)
  | illegalOpCF hop => exact .illegalOpCF (hopEq.trans hop)

end Sys2Proof

namespace Sys2Proof.Machine

open Sys2Proof.Safety

/-! ### Which row names a word has no effect -/

/-- A byte that a data phase of `n` bytes sends is one that ARG keeps (R60). -/
theorem byteLane_keepArgBytes {n : BitVec 3} (arg : U32) (hle : n.toNat ≤ 4) {i : Nat} (hi : i < n.toNat) :
    byteLane (keepArgBytes n arg) i = byteLane arg i := by
  have hused : ∀ (n : BitVec 3) (i : Fin 4), i.val < n.toNat →
      (usedArgMask n).extractLsb' (8 * i.val) 8 = BitVec.allOnes 8 := by decide
  have hagree : AgreeOn (usedArgMask n) (keepArgBytes n arg) arg := by
    intro j hj
    simp [keepArgBytes_eq_and, hj]
  exact (hagree.extract (8 * i) 8).eq (hused n ⟨i, by omega⟩ hi)

theorem byteLanes_keepArgBytes {n : BitVec 3} (arg : U32) (hle : n.toNat ≤ 4) :
    byteLanes n.toNat (keepArgBytes n arg) = byteLanes n.toNat arg :=
  List.map_congr_left fun _ hi => byteLane_keepArgBytes arg hle (List.mem_range.mp hi)

theorem startWriteReg_of_tooLong {n : BitVec 3} (h : 5 ≤ n.toNat) (a : RegAddr) (arg : U32) (s : State) :
    startWriteReg a n arg s = startIllegal s := if_pos h

theorem startReadReg_of_tooLong {n : BitVec 3} (h : 5 ≤ n.toNat) (a : RegAddr) (s : State) :
    startReadReg a n s = startIllegal s := if_pos h

/-- Every row of a word with OP 0x2 starts as WRITE_REG does (R73, R140). -/
theorem startOf_writeRow {a : RegAddr} {n : BitVec 3} {arg : U32} {i : Instr} (h : WriteRow a n arg i) (s : State) :
    startOf i s = startWriteReg a n arg s := by
  cases h with
  | selectW hn => subst hn; rfl
  | writeReg _ hle harg =>
    rw [← harg]
    simp only [startOf, startWriteReg, byteLanes_keepArgBytes arg hle]
  | illegalLen57 bit9 hn => exact (startWriteReg_of_tooLong (hn ▸ five_le_lenOf_57 bit9) a arg s).symm
  | illegalLen6 hn => exact (startWriteReg_of_tooLong (hn ▸ five_le_lenOf_6) a arg s).symm

/-- Every row of a word with OP 0x3 starts as READ_REG does (R73, R140). -/
theorem startOf_readRow {a : RegAddr} {n : BitVec 3} {i : Instr} (h : ReadRow a n i) (s : State) :
    startOf i s = startReadReg a n s := by
  cases h with
  | selectR hn => subst hn; rfl
  | readStatus hn ha => subst hn ha; rfl
  | readMode hn ha => subst hn ha; rfl
  | readControl hn ha => subst hn ha; rfl
  | readId hn ha => subst hn ha; rfl
  | readReg _ _ _ => rfl
  | illegalLen57 bit9 hn => exact (startReadReg_of_tooLong (hn ▸ five_le_lenOf_57 bit9) a s).symm
  | illegalLen6 hn => exact (startReadReg_of_tooLong (hn ▸ five_le_lenOf_6) a s).symm

theorem exec_decode_write {cw : CommandWord} (hop : opField cw = 0x2#4) (s : State) :
    exec (decode cw) s = exec (.writeReg (addrField cw) (lenField cw) (argField cw)) s := by
  rw [decode_of_op_write hop, exec_eq, exec_eq, startOf_writeRow (writeRow_decodeWrite _ _ _) s]
  rfl

theorem exec_decode_read {cw : CommandWord} (hop : opField cw = 0x3#4) (s : State) :
    exec (decode cw) s = exec (.readReg (addrField cw) (lenField cw)) s := by
  rw [decode_of_op_read hop, exec_eq, exec_eq, startOf_readRow (readRow_decodeRead _ _) s]
  rfl

/-! ### The command byte as a number -/

theorem toNat_commByte_doc (a : RegAddr) (rw wen : Bool) :
    (commByte .doc a rw wen).toNat = a.toNat * 16 + rw.toNat * 2 + wen.toNat := by
  cases rw <;> cases wen <;> (revert a; decide)

theorem toNat_commByte_datasheet (a : RegAddr) (rw wen : Bool) :
    (commByte .datasheet a rw wen).toNat = wen.toNat * 128 + rw.toNat * 64 + a.toNat := by
  cases rw <;> cases wen <;> (revert a; decide)

end Sys2Proof.Machine

namespace Sys2Proof.Safety

open Sys2Proof.Machine

/-- Settles O1: the encoded word meets the rule of its command, and the decoder gives what the rule gives. -/
theorem encodedCommandsDecodeBack : Obligations.EncodedCommandsDecodeBack :=
  fun _ hwf => (decodesAs_encode hwf).decode_eq

/-- Settles O2: every rule of the decoder gives a well-formed command. -/
theorem everyWordDecodesWellFormed : Obligations.EveryWordDecodesWellFormed :=
  fun cw => (decodesAs_decode cw).wf

/-- Settles O3: a flip outside the bits read leaves a word that agrees on them, and the decoder's rule for it. -/
theorem ignoredBitsDoNotMatter : Obligations.IgnoredBitsDoNotMatter :=
  fun cw _ hmiss => ((decodesAs_decode cw).congr (agreeOn_xor_of_and_eq_zero hmiss)).decode_eq

/-- Settles O4: rule by rule, with OP and LEN read as numbers. -/
theorem illegalWordsAreExactlyThese : Obligations.IllegalWordsAreExactlyThese := by
  intro cw
  rw [(decodesAs_decode cw).illegal_iff, IllegalFields, toNat_opField, toNat_lenField]

/-- Settles O5: each clause is the decoder's rule for its OP; the rows of WRITE_REG's and READ_REG's words start as those commands
do; the illegal OP values are among the illegal words. -/
theorem wordsRunTheirOperation : Obligations.WordsRunTheirOperation := by
  intro cw s
  refine ⟨fun h => (DecodesAs.init h).decode_eq, fun h => exec_decode_write h s, fun h => exec_decode_read h s,
    fun h => (DecodesAs.cfgMode h rfl).decode_eq, fun h => (DecodesAs.cfgChannel h rfl).decode_eq,
    fun h => (DecodesAs.cfgFilter h rfl).decode_eq, fun h => (DecodesAs.cfgIo h rfl rfl).decode_eq,
    fun h => (DecodesAs.calibrate h rfl).decode_eq, fun h => (DecodesAs.readConv h).decode_eq,
    fun h => (DecodesAs.probe h).decode_eq, fun h => ?_⟩
  refine (decodesAs_decode cw).illegal_iff.mpr ?_
  rcases h with h0 | hB
  · exact .inl (congrArg BitVec.toNat h0)
  · exact .inr (.inl hB)

/-- Settles O6: each word is the encoding of its well-formed command, and so decodes back to it. -/
theorem commandWordExamples : Obligations.CommandWordExamples := by
  intro x hx
  have hword : x.1.wf = true ∧ encode x.1 = x.2 := by
    revert x
    decide
  exact ⟨hword.2 ▸ encodedCommandsDecodeBack x.1 hword.1, hword.2⟩

/-- Settles O7. -/
theorem commandByteIsBuiltByLayout : Obligations.CommandByteIsBuiltByLayout :=
  fun a rw wen => ⟨toNat_commByte_doc a rw wen, toNat_commByte_datasheet a rw wen⟩

end Sys2Proof.Safety
end

section
/-! PROOF. READ_REG and the named reads (spec/41_transaction.md R93, R98, R102): the whole state in which a read transaction's command
ends. -/

namespace Sys2Proof.Machine

open Sys2Proof.Safety

/-! ### A raw read to its response -/

/-- A read whose answers are ok responds with the bytes received; one byte refreshes the image of its address. -/
theorem settle_regRead_ok (a : RegAddr) {n : Nat} (hn : n ≠ 0) (s : State) (l v : U32) (rest : List Input) :
    settle (.bus (.ok l) :: .bus (.ok v) :: rest) (regRead a n .rawRead s) =
      refreshImage ⟨a, .read, n, []⟩ (byteLanes n v)
        { ended s (readFrame s.params a n) .ok (packBytes (byteLanes n v)) rest with
          imgComm := commByte s.params.commLayout a true true } := by
  rw [regRead, settle_transact_read _ _ _ _ _ _ hn rfl, settle_ended rfl]
  simp only [refreshImage, returnTo, afterReadReg, updateImageOnRead_eq]
  split <;>
    simp [respond_eq, afterFrame, ended, readFrame, addressRequest, transactionByte, directionBit, dataRequest]

/-- A read whose data phase fails. -/
theorem settle_regRead_data_err (a : RegAddr) {n : Nat} (hn : n ≠ 0) (s : State) (l : U32) (rest : List Input) :
    settle (.bus (.ok l) :: .bus .err :: rest) (regRead a n .rawRead s) =
      { ended s (readFrame s.params a n) .busError 0#32 rest with
        imgComm := commByte s.params.commLayout a true true } := by
  rw [regRead, settle_transact_data_err _ _ _ _ _ hn, settle_ended rfl]
  simp [returnTo, afterReadReg, respond_eq, afterFrame, ended, readFrame, addressRequest, transactionByte, directionBit,
    dataRequest]

/-- A read whose address phase fails. -/
theorem settle_regRead_addr_err (a : RegAddr) (n : Nat) (s : State) (rest : List Input) :
    settle (.bus .err :: rest) (regRead a n .rawRead s) =
      { ended s (addressFrame s.params a true) .busError 0#32 rest with
        imgComm := commByte s.params.commLayout a true true } := by
  rw [regRead, settle_transact_addr_err, settle_ended rfl]
  simp [returnTo, afterReadReg, respond_eq, ended, addressFrame, addressRequest, transactionByte, directionBit]

/-! ### One byte received -/

theorem byteLane_zero (v : U32) : byteLane v 0 = v.setWidth 8 := (BitVec.setWidth_eq_extractLsb' (by decide)).symm

theorem byteLanes_one (v : U32) : byteLanes 1 v = [v.setWidth 8] := by
  simp [byteLanes, byteLane_zero]

theorem setWidth_byte_eq_and (v : U32) : (v.setWidth 8).setWidth 32 = v &&& 0xFF#32 := by
  apply BitVec.eq_of_toNat_eq
  simp only [BitVec.toNat_setWidth, BitVec.toNat_and, BitVec.toNat_ofNat]
  rw [show 255 % 2 ^ 32 = 2 ^ 8 - 1 from rfl, Nat.and_two_pow_sub_one_eq_mod]
  omega

theorem packBytes_singleton (v : U32) : packBytes [v.setWidth 8] = v &&& 0xFF#32 := by
  simp [packBytes, setWidth_byte_eq_and]

/-- The four named reads and their addresses (R73). -/
def namedReads : List (Instr × RegAddr) := [(.readStatus, 0#4), (.readMode, 1#4), (.readControl, 2#4), (.readId, 15#4)]

/-- A named read is the one-byte raw read of its address (R73). -/
theorem startOf_namedRead {x : Instr × RegAddr} (hx : x ∈ namedReads) (s : State) :
    startOf x.1 s = regRead x.2 1 .rawRead s := by
  simp only [namedReads, List.mem_cons, List.not_mem_nil, or_false] at hx
  rcases hx with rfl | rfl | rfl | rfl
  · rfl
  · rfl
  · rfl
  · rfl

/-- A named read that succeeds. -/
theorem exec_namedRead_ok {x : Instr × RegAddr} (hx : x ∈ namedReads) {s : State} {l v : U32} {rest : List Input}
    (hi : s.inputs = .bus (.ok l) :: .bus (.ok v) :: rest) :
    exec x.1 s = .next (updateImageOnRead x.2 (v.setWidth 8)
      { ended s (readFrame s.params x.2 1) .ok (v &&& 0xFF#32) rest with
        imgComm := commByte s.params.commLayout x.2 true true }) := by
  rw [exec_eq_settle, hi, startOf_namedRead hx, settle_regRead_ok x.2 one_ne_zero, byteLanes_one, packBytes_singleton]
  rfl

end Sys2Proof.Machine

namespace Sys2Proof.Safety

open Sys2Proof.Machine

/-- Settles O29: a named read is a one-byte raw read, and each of its three ends is the raw read's. -/
theorem namedReadOutcome : Obligations.NamedReadOutcome := by
  intro s
  refine ⟨fun l v rest hi => ?_, fun x hx => ⟨fun l rest hi => ?_, fun rest hi => ?_⟩⟩
  · exact ⟨exec_namedRead_ok (x := (.readStatus, 0#4)) (by decide) hi, exec_namedRead_ok (x := (.readMode, 1#4)) (by decide) hi,
      exec_namedRead_ok (x := (.readControl, 2#4)) (by decide) hi, exec_namedRead_ok (x := (.readId, 15#4)) (by decide) hi⟩
  · rw [exec_eq_settle, hi, startOf_namedRead hx, settle_regRead_data_err x.2 one_ne_zero]
  · rw [exec_eq_settle, hi, startOf_namedRead hx, settle_regRead_addr_err]

end Sys2Proof.Safety
end

section
/-! PROOF. The register-image encoder (spec/40_register_image.md R76 to R89). A field write touches its mask alone, and a field
read sees its mask alone; so the writes of an admitted table do not disturb each other, and each builder is such a list of writes on the
zero byte. -/

namespace Sys2Proof.Machine

/-! ### Field reads and writes, bit by bit -/

theorem getLsbD_getField (v : Byte) (f : Field) {i : Nat} (hi : i < 8) :
    (getField v f).getLsbD i = (v.getLsbD (f.lo + i) && decide (i < fieldWidth f)) := by
  rw [getField, BitVec.getLsbD_and, BitVec.getLsbD_ushiftRight, getLsbD_fieldOnes f i hi]

theorem setField_eq (v : Byte) (f : Field) (x : Byte) :
    setField v f x = (v &&& ~~~ fieldMask f) ||| ((x <<< f.lo) &&& fieldMask f) := by
  rw [setField, BitVec.shiftLeft_and_distrib, ← fieldMask]

theorem getLsbD_setField (v x : Byte) {f : Field} (hf : f.lo ≤ f.hi) {i : Nat} (hi : i < 8) :
    (setField v f x).getLsbD i = if f.lo ≤ i ∧ i ≤ f.hi then x.getLsbD (i - f.lo) else v.getLsbD i := by
  simp only [setField_eq, BitVec.getLsbD_or, BitVec.getLsbD_and, BitVec.getLsbD_not, BitVec.getLsbD_shiftLeft,
    getLsbD_fieldMask f i hi hf]
  by_cases hin : f.lo ≤ i ∧ i ≤ f.hi
  · simp [hin, hi]
  · simp [hin, hi]

/-- `set_bit` is the merged-view write of a one-bit field (R77, R79). -/
theorem setBit_eq_setField (v : Byte) (i : Nat) (b : Bool) : setBit v i b = setField v ⟨i, i⟩ (bitByte b) := by
  have hones : fieldOnes ⟨i, i⟩ = 1#8 := by simp [fieldOnes, fieldWidth]
  have hbit : bitByte b &&& 1#8 = bitByte b := by cases b <;> rfl
  rw [setField, fieldMask, hones, hbit, setBit]

/-! ### A field read as a number -/

theorem mod_two_pow_eq_sum_testBit (x n : Nat) : x % 2 ^ n = ∑ i ∈ Finset.range n, (x.testBit i).toNat * 2 ^ i := by
  induction n with
  | zero => simp [Nat.mod_one]
  | succ n ih => rw [Finset.sum_range_succ, ← ih, Nat.mod_pow_succ, Nat.toNat_testBit, Nat.mul_comm]

/-- The width of a field inside the byte is at most 8, so its value mask is not cut off. -/
theorem toNat_and_fieldOnes (x : Byte) {f : Field} (h : f.hi ≤ 7) :
    (x &&& fieldOnes f).toNat = x.toNat % 2 ^ fieldWidth f := by
  have hw : 2 ^ fieldWidth f ≤ 2 ^ 8 := Nat.pow_le_pow_right (by decide) (by unfold fieldWidth; omega)
  have hpos := Nat.two_pow_pos (fieldWidth f)
  rw [BitVec.toNat_and, fieldOnes, BitVec.toNat_ofNat, Nat.mod_eq_of_lt (by omega), Nat.and_two_pow_sub_one_eq_mod]

/-- R80's first consequence. -/
theorem toNat_getField_eq_sum (v : Byte) {f : Field} (hf : f.lo ≤ f.hi) (h : f.hi ≤ 7) :
    (getField v f).toNat = ∑ i ∈ Finset.Icc f.lo f.hi, (getBit v i).toNat * 2 ^ (i - f.lo) := by
  have hw : f.hi + 1 - f.lo = fieldWidth f := by unfold fieldWidth; omega
  rw [getField, toNat_and_fieldOnes _ h, mod_two_pow_eq_sum_testBit, ← Finset.Ico_add_one_right_eq_Icc,
    Finset.sum_Ico_eq_sum_range, hw]
  refine Finset.sum_congr rfl fun i _ => ?_
  rw [Nat.add_sub_cancel_left, BitVec.testBit_toNat, BitVec.getLsbD_ushiftRight, getBit]

/-! ### A write touches its mask alone, a read sees its mask alone -/

theorem and_not_eq_self {v m : Byte} (h : v &&& m = 0#8) : v &&& ~~~ m = v := by
  calc v &&& ~~~ m = (v &&& m) ||| (v &&& ~~~ m) := by rw [h, BitVec.zero_or]
    _ = v &&& (m ||| ~~~ m) := BitVec.and_or_distrib_left.symm
    _ = v := by rw [BitVec.or_not_self, BitVec.and_allOnes]

/-- A write keeps what a mask disjoint from its field shows. -/
theorem setField_and_of_disjoint {f : Field} {m : Byte} (h : fieldMask f &&& m = 0#8) (v x : Byte) :
    setField v f x &&& m = v &&& m := by
  have hm : ~~~ fieldMask f &&& m = m := by
    rw [BitVec.and_comm, and_not_eq_self (by rwa [BitVec.and_comm])]
  rw [setField_eq, BitVec.and_or_distrib_right, BitVec.and_assoc, BitVec.and_assoc, hm, h, BitVec.and_zero, BitVec.or_zero]

theorem getField_eq_of_and_mask (v : Byte) (f : Field) : getField v f = (v &&& fieldMask f) >>> f.lo := by
  rw [getField, fieldMask, BitVec.ushiftRight_and_distrib]
  apply BitVec.eq_of_getLsbD_eq
  intro i hi
  by_cases hlo : f.lo + i < 8
  · simp [hlo, hi]
  · simp [BitVec.getLsbD_of_ge v (f.lo + i) (by omega)]

theorem getField_congr {v u : Byte} {f : Field} (h : v &&& fieldMask f = u &&& fieldMask f) : getField v f = getField u f := by
  rw [getField_eq_of_and_mask, h, ← getField_eq_of_and_mask]

/-- Two fields share no bit (R81). -/
def FieldsDisjoint (f g : Field) : Prop := fieldMask f &&& fieldMask g = 0#8

theorem FieldsDisjoint.symm {f g : Field} (h : FieldsDisjoint f g) : FieldsDisjoint g f := (BitVec.and_comm ..).trans h

theorem getField_setField_of_disjoint {f g : Field} (h : FieldsDisjoint f g) (v x : Byte) :
    getField (setField v f x) g = getField v g :=
  getField_congr (setField_and_of_disjoint h v x)

/-! ### A value that fits its field -/

/-- The field lies in the byte and the value has no bit above the field's width. -/
structure ValueFits (f : Field) (x : Byte) : Prop where
  ordered : f.lo ≤ f.hi
  inByte : f.hi ≤ 7
  bounded : x.toNat < 2 ^ fieldWidth f

theorem fieldFits_iff {n : Nat} {f : Field} : fieldFits n f = true ↔ f.hi ≤ 7 ∧ f.lo ≤ f.hi ∧ fieldWidth f = n := by
  simp [fieldFits, and_assoc]

theorem ValueFits.setWidth {n : Nat} {f : Field} (h : fieldFits n f = true) (x : BitVec n) : ValueFits f (x.setWidth 8) := by
  obtain ⟨hbyte, hord, hwidth⟩ := fieldFits_iff.mp h
  refine ⟨hord, hbyte, ?_⟩
  rw [hwidth, BitVec.toNat_setWidth]
  exact (Nat.mod_le ..).trans_lt x.isLt

theorem toNat_bitByte (b : Bool) : (bitByte b).toNat = b.toNat := by
  cases b <;> rfl

theorem ValueFits.bitByte {f : Field} (h : fieldFits 1 f = true) (b : Bool) : ValueFits f (bitByte b) := by
  obtain ⟨hbyte, hord, hwidth⟩ := fieldFits_iff.mp h
  refine ⟨hord, hbyte, ?_⟩
  rw [hwidth, toNat_bitByte]
  exact Bool.toNat_lt b

theorem ValueFits.and_fieldOnes {f : Field} {x : Byte} (h : ValueFits f x) : x &&& fieldOnes f = x := by
  apply BitVec.eq_of_toNat_eq
  rw [toNat_and_fieldOnes x h.inByte, Nat.mod_eq_of_lt h.bounded]

/-- What is written to a field reads back from it. -/
theorem getField_setField_same {f : Field} {x : Byte} (h : ValueFits f x) (v : Byte) : getField (setField v f x) f = x := by
  have hbit : ∀ i < 8, x.getLsbD i = (x.getLsbD i && decide (i < fieldWidth f)) := fun i hi => by
    rw [← getLsbD_fieldOnes f i hi, ← BitVec.getLsbD_and, h.and_fieldOnes]
  apply BitVec.eq_of_getLsbD_eq
  intro i hi
  rw [getLsbD_getField _ _ hi, hbit i hi]
  by_cases hin : i < fieldWidth f
  · have hbyte := h.inByte
    have hpos : f.lo + i ≤ f.hi := by
      have hord := h.ordered
      unfold fieldWidth at hin
      omega
    rw [getLsbD_setField _ _ h.ordered (by omega), if_pos ⟨Nat.le_add_right .., hpos⟩, Nat.add_sub_cancel_left]
  · simp [hin]

/-- A field written over zero bits adds its value at its position. -/
theorem toNat_setField_of_and_eq_zero {f : Field} {x v : Byte} (h : ValueFits f x) (hv : v &&& fieldMask f = 0#8) :
    (setField v f x).toNat = v.toNat + x.toNat * 2 ^ f.lo := by
  have hshift : x <<< f.lo = (x <<< f.lo) &&& fieldMask f := by
    rw [fieldMask, ← BitVec.shiftLeft_and_distrib, h.and_fieldOnes]
  have hdisj : v &&& x <<< f.lo = 0#8 := by
    rw [hshift, BitVec.and_comm (x <<< f.lo), ← BitVec.and_assoc, hv, BitVec.zero_and]
  have hlt : x.toNat * 2 ^ f.lo < 2 ^ 8 := by
    calc x.toNat * 2 ^ f.lo < 2 ^ fieldWidth f * 2 ^ f.lo := Nat.mul_lt_mul_of_pos_right h.bounded (Nat.two_pow_pos _)
      _ = 2 ^ (fieldWidth f + f.lo) := (Nat.pow_add ..).symm
      _ ≤ 2 ^ 8 := Nat.pow_le_pow_right (by decide) (by
        have hord := h.ordered
        have hbyte := h.inByte
        unfold fieldWidth
        omega)
  rw [setField, and_not_eq_self hv, h.and_fieldOnes, ← BitVec.add_eq_or_of_and_eq_zero v _ hdisj,
    BitVec.toNat_add_of_and_eq_zero hdisj, BitVec.toNat_shiftLeft, Nat.shiftLeft_eq, Nat.mod_eq_of_lt hlt]

/-! ### Writes in turn -/

/-- Fields set in turn, the first of the list first. -/
def setFields (v : Byte) (ws : List (Field × Byte)) : Byte := ws.foldl (fun u w => setField u w.1 w.2) v

theorem setFields_cons (v : Byte) (w : Field × Byte) (ws : List (Field × Byte)) :
    setFields v (w :: ws) = setFields (setField v w.1 w.2) ws := rfl

theorem setFields_and_of_disjoint {m : Byte} {ws : List (Field × Byte)} (h : ∀ w ∈ ws, fieldMask w.1 &&& m = 0#8) (v : Byte) :
    setFields v ws &&& m = v &&& m := by
  induction ws generalizing v with
  | nil => rfl
  | cons w ws ih =>
    obtain ⟨hw, hws⟩ := List.forall_mem_cons.mp h
    rw [setFields_cons, ih hws, setField_and_of_disjoint hw]

/-- Writes that an admitted table allows: to disjoint fields outside the reserved mask, each of a value that fits (R81). -/
structure AdmittedWrites (reserved : Byte) (ws : List (Field × Byte)) : Prop where
  disjoint : ws.Pairwise fun w w' => FieldsDisjoint w.1 w'.1
  unreserved : ∀ w ∈ ws, fieldMask w.1 &&& reserved = 0#8
  fits : ∀ w ∈ ws, ValueFits w.1 w.2

namespace AdmittedWrites

variable {reserved : Byte} {ws : List (Field × Byte)}

theorem tail {w : Field × Byte} (h : AdmittedWrites reserved (w :: ws)) : AdmittedWrites reserved ws :=
  ⟨h.disjoint.tail, (List.forall_mem_cons.mp h.unreserved).2, (List.forall_mem_cons.mp h.fits).2⟩

theorem head_disjoint {w : Field × Byte} (h : AdmittedWrites reserved (w :: ws)) : ∀ w' ∈ ws, FieldsDisjoint w.1 w'.1 :=
  (List.pairwise_cons.mp h.disjoint).1

/-- The reserved bits of an image built from zero (R88). -/
theorem and_reserved (h : AdmittedWrites reserved ws) : setFields 0#8 ws &&& reserved = 0#8 := by
  rw [setFields_and_of_disjoint h.unreserved, BitVec.zero_and]

/-- Each value reads back from its field (R89). -/
theorem getField_eq (h : AdmittedWrites reserved ws) {f : Field} {x : Byte} (hmem : (f, x) ∈ ws) (v : Byte) :
    getField (setFields v ws) f = x := by
  induction ws generalizing v with
  | nil => cases hmem
  | cons w ws ih =>
    rw [setFields_cons]
    rcases List.mem_cons.mp hmem with rfl | hmem
    · have hkept := setFields_and_of_disjoint (fun w' hw' => (h.head_disjoint w' hw').symm) (setField v f x)
      rw [getField_congr hkept, getField_setField_same (h.fits _ List.mem_cons_self)]
    · exact ih h.tail hmem _

/-- An image built over zero bits is the sum of its values at their positions. -/
theorem toNat_setFields (h : AdmittedWrites reserved ws) {v : Byte} (hv : ∀ w ∈ ws, v &&& fieldMask w.1 = 0#8) :
    (setFields v ws).toNat = v.toNat + (ws.map fun w => w.2.toNat * 2 ^ w.1.lo).sum := by
  induction ws generalizing v with
  | nil => rfl
  | cons w ws ih =>
    obtain ⟨hw, hws⟩ := List.forall_mem_cons.mp hv
    have hrest : ∀ w' ∈ ws, setField v w.1 w.2 &&& fieldMask w'.1 = 0#8 := fun w' hw' => by
      rw [setField_and_of_disjoint (h.head_disjoint w' hw'), hws w' hw']
    rw [setFields_cons, ih h.tail hrest, toNat_setField_of_and_eq_zero (h.fits w List.mem_cons_self) hw, List.map_cons,
      List.sum_cons, Nat.add_assoc]

theorem toNat_eq (h : AdmittedWrites reserved ws) :
    (setFields 0#8 ws).toNat = (ws.map fun w => w.2.toNat * 2 ^ w.1.lo).sum := by
  rw [h.toNat_setFields fun _ _ => BitVec.zero_and]
  exact Nat.zero_add _

end AdmittedWrites

/-! ### Admitted tables (R81) -/

theorem and_tableCover_eq_zero_iff {m : Byte} {fs : List Field} :
    m &&& tableCover fs = 0#8 ↔ ∀ f ∈ fs, m &&& fieldMask f = 0#8 := by
  induction fs with
  | nil => simp [tableCover]
  | cons f fs ih => rw [tableCover, BitVec.and_or_distrib_left, BitVec.or_eq_zero_iff, ih, List.forall_mem_cons]

theorem tableDisjoint_iff {fs : List Field} : tableDisjoint fs = true ↔ fs.Pairwise FieldsDisjoint := by
  induction fs with
  | nil => simp [tableDisjoint]
  | cons f fs ih =>
    rw [tableDisjoint, Bool.and_eq_true, ih, beq_iff_eq, and_tableCover_eq_zero_iff, List.pairwise_cons]
    rfl

theorem disjoint_of_tableOk {fs : List Field} {reserved : Byte} (h : tableOk fs reserved = true) :
    fs.Pairwise FieldsDisjoint :=
  tableDisjoint_iff.mp (Bool.and_eq_true_iff.mp h).1

theorem fieldMask_and_reserved {fs : List Field} {reserved : Byte} (h : tableOk fs reserved = true) {f : Field} (hf : f ∈ fs) :
    fieldMask f &&& reserved = 0#8 := by
  have hres : reserved = ~~~ tableCover fs := beq_iff_eq.mp (Bool.and_eq_true_iff.mp h).2
  have hcover : reserved &&& tableCover fs = 0#8 := by simp [hres]
  rw [BitVec.and_comm, and_tableCover_eq_zero_iff.mp hcover f hf]

/-- Fitting writes to the fields of an admitted table, in any order. -/
theorem admittedWrites_of_tableOk {fs : List Field} {reserved : Byte} {ws : List (Field × Byte)}
    (h : tableOk fs reserved = true) (hperm : (ws.map Prod.fst).Perm fs) (hfits : ∀ w ∈ ws, ValueFits w.1 w.2) :
    AdmittedWrites reserved ws where
  disjoint := List.pairwise_map.mp ((hperm.pairwise_iff FieldsDisjoint.symm).mpr (disjoint_of_tableOk h))
  unreserved _ hw := fieldMask_and_reserved h (hperm.mem_iff.mp (List.mem_map_of_mem hw))
  fits := hfits

/-! ### The builders as lists of writes (R83 to R87, R69) -/

/-- The five flags of a MODE table (R81). -/
def modeFlags (l : ModeLayout) : List Field := [l.oscpd, l.chcon, l.refsel, l.negbuf, l.chop]

theorem modeLayoutOk_iff {l : ModeLayout} : modeLayoutOk l = true ↔
    fieldFits 3 l.md = true ∧ (∀ f ∈ modeFlags l, fieldFits 1 f = true) ∧ tableOk (l.md :: modeFlags l) l.reserved = true := by
  simp [modeLayoutOk, modeFlags, and_assoc]

theorem controlLayoutOk_iff {l : ControlLayout} : controlLayoutOk l = true ↔
    fieldFits 3 l.rn = true ∧ fieldFits 1 l.pol = true ∧ fieldFits 4 l.ch = true ∧
      tableOk [l.rn, l.pol, l.ch] l.reserved = true := by
  simp [controlLayoutOk, and_assoc]

theorem ioLayoutOk_iff {l : IoLayout} : ioLayoutOk l = true ↔
    fieldFits 1 l.p1dir = true ∧ fieldFits 1 l.p2dir = true ∧ tableOk [l.p1dir, l.p2dir] l.reserved = true := by
  simp [ioLayoutOk, and_assoc]

theorem paramsOk_iff {p : Params} : paramsOk p = true ↔
    modeLayoutOk p.modeLayout = true ∧ controlLayoutOk p.controlLayout = true ∧ ioLayoutOk p.ioLayout = true := by
  simp [paramsOk, and_assoc]

/-- The writes of `build_mode` (R83). -/
def modeWrites (l : ModeLayout) (md : BitVec 3) (oscpd chcon refsel negbuf chop : Bool) : List (Field × Byte) :=
  [(l.md, md.setWidth 8), (l.oscpd, bitByte oscpd), (l.chcon, bitByte chcon), (l.refsel, bitByte refsel),
    (l.negbuf, bitByte negbuf), (l.chop, bitByte chop)]

theorem buildMode_eq (l : ModeLayout) (md : BitVec 3) (oscpd chcon refsel negbuf chop : Bool) :
    buildMode l md oscpd chcon refsel negbuf chop = setFields 0#8 (modeWrites l md oscpd chcon refsel negbuf chop) := rfl

theorem modeWrites_admitted {l : ModeLayout} (h : modeLayoutOk l = true) (md : BitVec 3)
    (oscpd chcon refsel negbuf chop : Bool) : AdmittedWrites l.reserved (modeWrites l md oscpd chcon refsel negbuf chop) := by
  obtain ⟨hmd, hflags, htable⟩ := modeLayoutOk_iff.mp h
  refine admittedWrites_of_tableOk htable (.refl _) ?_
  simp only [modeFlags, List.forall_mem_cons] at hflags
  obtain ⟨hoscpd, hchcon, hrefsel, hnegbuf, hchop, -⟩ := hflags
  simp only [modeWrites, List.forall_mem_cons]
  exact ⟨.setWidth hmd md, .bitByte hoscpd oscpd, .bitByte hchcon chcon, .bitByte hrefsel refsel, .bitByte hnegbuf negbuf,
    .bitByte hchop chop, List.forall_mem_nil _⟩

/-- The writes of `build_control` (R84). -/
def controlWrites (l : ControlLayout) (ch : BitVec 4) (rn : BitVec 3) (pol : Bool) : List (Field × Byte) :=
  [(l.ch, ch.setWidth 8), (l.rn, rn.setWidth 8), (l.pol, bitByte pol)]

theorem buildControl_eq (l : ControlLayout) (ch : BitVec 4) (rn : BitVec 3) (pol : Bool) :
    buildControl l ch rn pol = setFields 0#8 (controlWrites l ch rn pol) := rfl

theorem controlWrites_admitted {l : ControlLayout} (h : controlLayoutOk l = true) (ch : BitVec 4) (rn : BitVec 3) (pol : Bool) :
    AdmittedWrites l.reserved (controlWrites l ch rn pol) := by
  obtain ⟨hrn, hpol, hch, htable⟩ := controlLayoutOk_iff.mp h
  refine admittedWrites_of_tableOk htable (List.perm_append_comm (l₁ := [l.ch]) (l₂ := [l.rn, l.pol])) ?_
  simp only [controlWrites, List.forall_mem_cons]
  exact ⟨.setWidth hch ch, .setWidth hrn rn, .bitByte hpol pol, List.forall_mem_nil _⟩

/-- The writes of `build_io` (R86). -/
def ioWrites (l : IoLayout) (p1dir p2dir : Bool) : List (Field × Byte) := [(l.p1dir, bitByte p1dir), (l.p2dir, bitByte p2dir)]

theorem buildIo_eq (l : IoLayout) (p1dir p2dir : Bool) : buildIo l p1dir p2dir = setFields 0#8 (ioWrites l p1dir p2dir) := rfl

theorem ioWrites_admitted {l : IoLayout} (h : ioLayoutOk l = true) (p1dir p2dir : Bool) :
    AdmittedWrites l.reserved (ioWrites l p1dir p2dir) := by
  obtain ⟨hp1, hp2, htable⟩ := ioLayoutOk_iff.mp h
  refine admittedWrites_of_tableOk htable (.refl _) ?_
  simp only [ioWrites, List.forall_mem_cons]
  exact ⟨.bitByte hp1 p1dir, .bitByte hp2 p2dir, List.forall_mem_nil _⟩

/-- The command byte as writes to its three fields (R69, R81). -/
def commWrites (l : CommLayout) (a : RegAddr) (rw wen : Bool) : List (Field × Byte) :=
  [(commAddrField l, a.setWidth 8), (commRwField l, bitByte rw), (commWenField l, bitByte wen)]

theorem commLayout_admitted (l : CommLayout) :
    fieldFits 4 (commAddrField l) = true ∧ fieldFits 1 (commRwField l) = true ∧ fieldFits 1 (commWenField l) = true ∧
      tableOk [commAddrField l, commRwField l, commWenField l] (commReserved l) = true := by
  cases l <;> decide

theorem commWrites_admitted (l : CommLayout) (a : RegAddr) (rw wen : Bool) :
    AdmittedWrites (commReserved l) (commWrites l a rw wen) := by
  obtain ⟨haddr, hrw, hwen, htable⟩ := commLayout_admitted l
  refine admittedWrites_of_tableOk htable (.refl _) ?_
  simp only [commWrites, List.forall_mem_cons]
  exact ⟨.setWidth haddr a, .bitByte hrw rw, .bitByte hwen wen, List.forall_mem_nil _⟩

/-- Both bytes are the same number. -/
theorem commByte_eq (l : CommLayout) (a : RegAddr) (rw wen : Bool) :
    commByte l a rw wen = setFields 0#8 (commWrites l a rw wen) := by
  apply BitVec.eq_of_toNat_eq
  rw [(commWrites_admitted l a rw wen).toNat_eq]
  cases l with
  | doc =>
    rw [toNat_commByte_doc]
    simp only [commWrites, commAddrField, commRwField, commWenField, List.map_cons, List.map_nil, List.sum_cons, List.sum_nil,
      toNat_bitByte, BitVec.toNat_setWidth_of_le, Nat.reduceLeDiff]
    omega
  | datasheet =>
    rw [toNat_commByte_datasheet]
    simp only [commWrites, commAddrField, commRwField, commWenField, List.map_cons, List.map_nil, List.sum_cons, List.sum_nil,
      toNat_bitByte, BitVec.toNat_setWidth_of_le, Nat.reduceLeDiff]
    omega

/-! ### The mode code replaced (R87) -/

theorem toNat_getField_md_withMd {l : ModeLayout} (h : modeLayoutOk l = true) (v : Byte) (md : BitVec 3) :
    (getField (withMd l v md) l.md).toNat = md.toNat := by
  obtain ⟨hmd, -, -⟩ := modeLayoutOk_iff.mp h
  rw [withMd, getField_setField_same (.setWidth hmd md), BitVec.toNat_setWidth_of_le (by decide)]

theorem getField_flag_withMd {l : ModeLayout} (h : modeLayoutOk l = true) {f : Field} (hf : f ∈ modeFlags l) (v : Byte)
    (md : BitVec 3) : getField (withMd l v md) f = getField v f := by
  obtain ⟨-, -, htable⟩ := modeLayoutOk_iff.mp h
  exact getField_setField_of_disjoint ((List.pairwise_cons.mp (disjoint_of_tableOk htable)).1 f hf) v _

/-! ### Fields of built images as numbers -/

theorem AdmittedWrites.toNat_getField_setWidth {reserved : Byte} {ws : List (Field × Byte)} (h : AdmittedWrites reserved ws)
    {n : Nat} (hn : n ≤ 8) {f : Field} {x : BitVec n} (hmem : (f, x.setWidth 8) ∈ ws) :
    (getField (setFields 0#8 ws) f).toNat = x.toNat := by
  rw [h.getField_eq hmem, BitVec.toNat_setWidth_of_le hn]

theorem AdmittedWrites.toNat_getField_bitByte {reserved : Byte} {ws : List (Field × Byte)} (h : AdmittedWrites reserved ws)
    {f : Field} {b : Bool} (hmem : (f, bitByte b) ∈ ws) : (getField (setFields 0#8 ws) f).toNat = b.toNat := by
  rw [h.getField_eq hmem, toNat_bitByte]

end Sys2Proof.Machine

namespace Sys2Proof.Safety

open Sys2Proof.Machine

/-- Settles O8: every builder makes admitted writes on the zero byte. -/
theorem builtImagesHaveReservedZero : Obligations.BuiltImagesHaveReservedZero := by
  intro p hok
  obtain ⟨hmode, hcontrol, hio⟩ := paramsOk_iff.mp hok
  refine ⟨fun md oscpd chcon refsel negbuf chop => ?_, fun ch rn pol => ?_, fun sf => ?_, fun p1dir p2dir => ?_,
    fun l a rw wen => ?_, fun hres v md => ?_⟩
  · exact (modeWrites_admitted hmode md oscpd chcon refsel negbuf chop).and_reserved
  · exact (controlWrites_admitted hcontrol ch rn pol).and_reserved
  · exact BitVec.and_zero
  · exact (ioWrites_admitted hio p1dir p2dir).and_reserved
  · rw [commByte_eq]
    exact (commWrites_admitted l a rw wen).and_reserved
  · rw [hres]
    exact BitVec.and_zero

/-- Settles O9: admitted writes do not disturb each other, so each value reads back from its field. -/
theorem builtFieldsReadBack : Obligations.BuiltFieldsReadBack := by
  intro p hok
  obtain ⟨hmode, hcontrol, hio⟩ := paramsOk_iff.mp hok
  refine ⟨fun md oscpd chcon refsel negbuf chop => ?_, fun ch rn pol => ?_, fun sf => ?_, fun p1dir p2dir => ?_,
    fun v md => ?_, fun l a rw wen => ?_⟩
  · have h := modeWrites_admitted hmode md oscpd chcon refsel negbuf chop
    rw [buildMode_eq]
    exact ⟨h.toNat_getField_setWidth (by decide) (by simp [modeWrites]), h.toNat_getField_bitByte (by simp [modeWrites]),
      h.toNat_getField_bitByte (by simp [modeWrites]), h.toNat_getField_bitByte (by simp [modeWrites]),
      h.toNat_getField_bitByte (by simp [modeWrites]), h.toNat_getField_bitByte (by simp [modeWrites])⟩
  · have h := controlWrites_admitted hcontrol ch rn pol
    rw [buildControl_eq]
    exact ⟨h.toNat_getField_setWidth (by decide) (by simp [controlWrites]),
      h.toNat_getField_setWidth (by decide) (by simp [controlWrites]), h.toNat_getField_bitByte (by simp [controlWrites])⟩
  · have hfits : ValueFits wholeByteField sf := ⟨by decide, by decide, sf.isLt⟩
    exact hfits.and_fieldOnes
  · have h := ioWrites_admitted hio p1dir p2dir
    rw [buildIo_eq]
    exact ⟨h.toNat_getField_bitByte (by simp [ioWrites]), h.toNat_getField_bitByte (by simp [ioWrites])⟩
  · have hflag := fun f (hf : f ∈ modeFlags p.modeLayout) => getField_flag_withMd hmode hf v md
    simp only [modeFlags, List.forall_mem_cons] at hflag
    obtain ⟨hoscpd, hchcon, hrefsel, hnegbuf, hchop, -⟩ := hflag
    exact ⟨toNat_getField_md_withMd hmode v md, hoscpd, hchcon, hrefsel, hnegbuf, hchop⟩
  · have h := commWrites_admitted l a rw wen
    rw [commByte_eq]
    exact ⟨h.toNat_getField_setWidth (by decide) (by simp [commWrites]), h.toNat_getField_bitByte (by simp [commWrites]),
      h.toNat_getField_bitByte (by simp [commWrites])⟩

/-- Settles O10: the two consequences of R80, a field's number and a field write bit by bit. -/
theorem mergedAndFunctionalViewsAgree : Obligations.MergedAndFunctionalViewsAgree :=
  fun v x _ hord hbyte => ⟨toNat_getField_eq_sum v hord hbyte, fun _ hi => getLsbD_setField v x hord (Nat.lt_succ_of_le hi)⟩

/-- Settles O11: `set_bit` writes the one-bit field at its position, and the field write is known bit by bit. -/
theorem setBitReplacesOneBit : Obligations.SetBitReplacesOneBit := by
  intro v i j b _ hj
  rw [setBit_eq_setField, getBit, getLsbD_setField v _ (Nat.le_refl i) (Nat.lt_succ_of_le hj)]
  by_cases hji : j = i
  · subst hji
    cases b <;> simp [bitByte]
  · rw [if_neg (by simp only; omega), if_neg hji, getBit]

/-- Settles O12: the default tables are admitted, and an image built by admitted writes is the sum of its values at their positions. -/
theorem defaultLayoutBytes : Obligations.DefaultLayoutBytes := by
  refine ⟨fun md oscpd chcon refsel negbuf chop => ?_, fun ch rn pol => ?_, fun p1dir p2dir => ?_, by decide⟩
  · rw [buildMode_eq, (modeWrites_admitted (by decide) md oscpd chcon refsel negbuf chop).toNat_eq]
    simp only [modeWrites, ModeLayout.default, List.map_cons, List.map_nil, List.sum_cons, List.sum_nil,
      toNat_bitByte, BitVec.toNat_setWidth_of_le, Nat.reduceLeDiff]
    omega
  · rw [buildControl_eq, (controlWrites_admitted (by decide) ch rn pol).toNat_eq]
    simp only [controlWrites, ControlLayout.default, List.map_cons, List.map_nil, List.sum_cons, List.sum_nil,
      toNat_bitByte, BitVec.toNat_setWidth_of_le, Nat.reduceLeDiff]
    omega
  · rw [buildIo_eq, (ioWrites_admitted (by decide) p1dir p2dir).toNat_eq]
    simp only [ioWrites, IoLayout.default, List.map_cons, List.map_nil, List.sum_cons, List.sum_nil,
      toNat_bitByte]
    omega

end Sys2Proof.Safety
end

section
/-! PROOF. Chip-select is balanced (spec/41_transaction.md R91). The frame automaton opens a frame with an assertion and closes it with a
deassertion, so a disciplined run of events holds one assertion more than deassertions exactly while a frame is open. -/

namespace Sys2Proof.Safety

open Sys2Proof.Machine

/-- A frame is open: chip-select is asserted. -/
def FramePoint.isOpen : FramePoint → Bool
  | .outside => false
  | .selected => true
  | .addressed _ => true
  | .dataRequested => true

theorem FramePoint.isOpen_eq_false_iff {f : FramePoint} : f.isOpen = false ↔ f = .outside := by
  cases f <;> simp [isOpen]

/-- A chip-select event opens a closed frame or closes an open one; any other event leaves the frame open or closed. -/
theorem frameStep_cases {p : Params} {f g : FramePoint} {e : PortEvent} (h : frameStep p f e = some g) :
    (∃ level, e = .setCS level ∧ f.isOpen = !level ∧ g.isOpen = level) ∨
      ((∀ level, e ≠ .setCS level) ∧ f.isOpen = g.isOpen) := by
  cases f with
  | outside =>
    cases e with
    | setCS level =>
      cases level <;> cases h
      exact .inl ⟨true, rfl, rfl, rfl⟩
    | busOut bytes ms => cases h
    | busIn n ms => cases h
    | _ =>
      cases h
      exact .inr ⟨nofun, rfl⟩
  | selected =>
    cases e with
    | busOut bytes ms =>
      match bytes with
      | [] => cases h
      | [b] =>
        refine .inr ⟨nofun, ?_⟩
        simp only [frameStep] at h
        split_ifs at h <;> cases h <;> rfl
      | _ :: _ :: _ => cases h
    | _ => cases h
  | addressed rw =>
    cases e with
    | setCS level =>
      cases rw <;> cases level <;> cases h <;> exact .inl ⟨false, rfl, rfl, rfl⟩
    | _ =>
      refine .inr ⟨nofun, ?_⟩
      cases rw <;> cases h <;> rfl
  | dataRequested =>
    cases e with
    | setCS level =>
      cases level <;> cases h
      exact .inl ⟨false, rfl, rfl, rfl⟩
    | _ => cases h

theorem csCount_cons_setCS (level b : Bool) (ev : List PortEvent) :
    csCount level (.setCS b :: ev) = csCount level ev + (b == level).toNat := by
  cases b <;> cases level <;> simp [csCount]

theorem csCount_cons_of_ne {e : PortEvent} (he : ∀ b, e ≠ .setCS b) (level : Bool) (ev : List PortEvent) :
    csCount level (e :: ev) = csCount level ev :=
  List.count_cons_of_ne (he level)

/-- A disciplined run from `f` to `g`: the frame open at `f` and the assertions are the deassertions and the frame open at `g`. -/
theorem csCount_of_frameRun {p : Params} {f g : FramePoint} {ev : List PortEvent} (h : frameRun p f ev = some g) :
    csCount true ev + f.isOpen.toNat = csCount false ev + g.isOpen.toNat := by
  induction ev generalizing f with
  | nil =>
    cases h
    rfl
  | cons e ev ih =>
    simp only [frameRun] at h
    split at h
    · next f' hstep =>
      have hrest := ih h
      rcases frameStep_cases hstep with ⟨level, rfl, hf, hf'⟩ | ⟨he, hf⟩
      · rw [hf'] at hrest
        rw [csCount_cons_setCS, csCount_cons_setCS, hf]
        cases level <;> simp at hrest ⊢ <;> omega
      · rwa [csCount_cons_of_ne he, csCount_cons_of_ne he, hf]
    · cases h

/-- Settles O49: a command's events are disciplined (`Disciplined.exec`), and its chip-select is asserted exactly while a frame is
open. -/
theorem chipSelectIsBalanced : Obligations.ChipSelectIsBalanced := by
  intro i s u hs hcs hexec
  have hdisc := Disciplined.exec hs hcs hexec
  obtain ⟨ev, htrace, hrun⟩ := hdisc.run
  have hopen : (frameAt u.point).isOpen = u.cs :=
    Bool.eq_iff_iff.mpr (by rw [← Bool.not_eq_false, ← Bool.not_eq_false, FramePoint.isOpen_eq_false_iff, hdisc.closed])
  have hcount := csCount_of_frameRun hrun
  rw [hopen] at hcount
  exact ⟨ev, htrace, hcount, fun hp => hdisc.closed.mpr (by rw [hp]; rfl)⟩

end Sys2Proof.Safety
end

section
/-! PROOF. WRITE_REG, READ_REG and SELECT (spec/41_transaction.md R97, R98, R101, R102): the whole state in which each raw access ends, for
every length and every answer. -/

namespace Sys2Proof.Machine

open Sys2Proof.Safety

/-! ### The starts by length -/

theorem startWriteReg_of_le {n : BitVec 3} (h : n.toNat ≤ 4) (a : RegAddr) (arg : U32) (s : State) :
    startWriteReg a n arg s = regWrite a (byteLanes n.toNat arg) .rawWrite s := if_neg (not_lt.mpr h)

theorem startReadReg_of_le {n : BitVec 3} (h : n.toNat ≤ 4) (a : RegAddr) (s : State) :
    startReadReg a n s = regRead a n.toNat .rawRead s := if_neg (not_lt.mpr h)

/-- An illegal command takes no event of the environment (R139). -/
theorem settle_startIllegal (s : State) : settle s.inputs (startIllegal s) = illegalEnded s := settle_ended rfl _

/-! ### A raw write to its response -/

/-- A raw write whose data phase is requested ends with the status of the data phase's answer (R97). -/
theorem settle_regWrite_data (a : RegAddr) {bytes : List Byte} (hbytes : bytes ≠ []) (s : State) (l : U32) (r : BusAnswer)
    (rest : List Input) :
    settle (.bus (.ok l) :: .bus r :: rest) (regWrite a bytes .rawWrite s) =
      { ended s (writeFrame s.params a bytes) (statusOf r) 0#32 rest with
        imgComm := commByte s.params.commLayout a false true } := by
  have hlen : bytes.length ≠ 0 := List.length_eq_zero_iff.not.mpr hbytes
  cases r with
  | err =>
    rw [regWrite, settle_transact_data_err _ _ _ _ _ hlen, settle_ended rfl]
    rfl
  | ok l' =>
    rw [regWrite, settle_transact_write _ _ _ _ _ _ hlen rfl, settle_ended rfl]
    rfl

/-- A raw write whose address phase fails. -/
theorem settle_regWrite_addr_err (a : RegAddr) (bytes : List Byte) (s : State) (rest : List Input) :
    settle (.bus .err :: rest) (regWrite a bytes .rawWrite s) =
      { ended s (addressFrame s.params a false) .busError 0#32 rest with
        imgComm := commByte s.params.commLayout a false true } := by
  rw [regWrite, settle_transact_addr_err, settle_ended rfl]
  rfl

/-! ### The address phase alone (R101) -/

theorem settle_regWrite_select (a : RegAddr) (s : State) (r : BusAnswer) (rest : List Input) :
    settle (.bus r :: rest) (regWrite a [] .rawWrite s) =
      { ended s (addressFrame s.params a false) (statusOf r) 0#32 rest with
        imgComm := commByte s.params.commLayout a false true } := by
  cases r with
  | err => exact settle_regWrite_addr_err a [] s rest
  | ok l =>
    rw [regWrite, settle_transact_select _ _ _ _ _ rfl, settle_ended rfl]
    rfl

theorem settle_regRead_select (a : RegAddr) (s : State) (r : BusAnswer) (rest : List Input) :
    settle (.bus r :: rest) (regRead a 0 .rawRead s) =
      { ended s (addressFrame s.params a true) (statusOf r) 0#32 rest with
        imgComm := commByte s.params.commLayout a true true } := by
  cases r with
  | err => exact settle_regRead_addr_err a 0 s rest
  | ok l =>
    rw [regRead, settle_transact_select _ _ _ _ _ rfl, settle_ended rfl]
    rfl

/-! ### The bytes received, packed (R98) -/

theorem byteLane_succ (v : U32) (i : Nat) : byteLane v (i + 1) = byteLane (v >>> 8) i := by
  ext j hj
  simp [byteLane, Nat.mul_add, Nat.add_comm, Nat.add_left_comm, BitVec.getElem_extractLsb']

theorem byteLanes_succ (n : Nat) (v : U32) : byteLanes (n + 1) v = v.setWidth 8 :: byteLanes n (v >>> 8) := by
  simp [byteLanes, List.range_succ_eq_map, byteLane_zero, byteLane_succ]

/-- Packing the first n bytes of a word keeps its low 8n bits and clears the others. -/
theorem getLsbD_packBytes_byteLanes (n : Nat) (v : U32) {i : Nat} (hi : i < 32) :
    (packBytes (byteLanes n v)).getLsbD i = (decide (i < 8 * n) && v.getLsbD i) := by
  induction n generalizing v i with
  | zero => simp [byteLanes, packBytes]
  | succ n ih =>
    rw [byteLanes_succ, packBytes, BitVec.getLsbD_or, BitVec.getLsbD_shiftLeft, ih _ (by omega)]
    by_cases h : i < 8
    · have hkeep : i < 8 * (n + 1) := by omega
      simp [h, hi, hkeep]
    · have hshift : 8 + (i - 8) = i := by omega
      have hkeep : i - 8 < 8 * n ↔ i < 8 * (n + 1) := by omega
      simp [h, hi, hshift, hkeep]

theorem packBytes_byteLanes {n : BitVec 3} (hle : n.toNat ≤ 4) (v : U32) :
    packBytes (byteLanes n.toNat v) = v &&& usedArgMask n := by
  have hmask : ∀ (n : BitVec 3) (i : Fin 32), n.toNat ≤ 4 → (usedArgMask n).getLsbD i = decide (i.val < 8 * n.toNat) := by
    decide
  ext i hi
  rw [← BitVec.getLsbD_eq_getElem, ← BitVec.getLsbD_eq_getElem, getLsbD_packBytes_byteLanes _ _ hi, BitVec.getLsbD_and,
    hmask n ⟨i, hi⟩ hle, Bool.and_comm]

/-- A read refreshes an image exactly if it is a one-byte read of the image's address (R93). -/
theorem refreshImage_byteLanes (a : RegAddr) (n : BitVec 3) (v : U32) (s : State) :
    refreshImage ⟨a, .read, n.toNat, []⟩ (byteLanes n.toNat v) s =
      { s with
        imgStatus := if n = 1#3 ∧ a = 0#4 then v.setWidth 8 else s.imgStatus
        imgMode := if n = 1#3 ∧ a = 1#4 then v.setWidth 8 else s.imgMode
        imgControl := if n = 1#3 ∧ a = 2#4 then v.setWidth 8 else s.imgControl
        imgFilter := if n = 1#3 ∧ a = 3#4 then v.setWidth 8 else s.imgFilter
        imgIo := if n = 1#3 ∧ a = 7#4 then v.setWidth 8 else s.imgIo } := by
  by_cases hn : n = 1#3
  · subst hn
    have hbyte : refreshImage ⟨a, .read, 1, []⟩ (byteLanes 1 v) s = updateImageOnRead a (v.setWidth 8) s := by
      rw [byteLanes_one]
      rfl
    refine hbyte.trans ?_
    rw [updateImageOnRead_eq]
    simp
  · have hlen : n.toNat ≠ 1 := fun h => hn (BitVec.eq_of_toNat_eq h)
    simp [refreshImage, hlen, hn]

end Sys2Proof.Machine

namespace Sys2Proof.Safety

open Sys2Proof.Machine

/-- Settles O26: a legal length starts a raw write, whose end depends on the phase that failed; LEN 0 has no data phase. -/
theorem writeRegOutcome : Obligations.WriteRegOutcome := by
  intro s a n arg
  refine ⟨fun hpos hle l r rest hi => ?_, fun hn r rest hi => ?_, fun hle rest hi => ?_, fun hlong => ?_⟩
  · have hbytes : byteLanes n.toNat arg ≠ [] := List.ne_nil_of_length_pos (by simpa [byteLanes] using Nat.lt_of_succ_le hpos)
    rw [exec_eq_settle, hi, startOf, startWriteReg_of_le hle, settle_regWrite_data a hbytes]
    rfl
  · subst hn
    rw [exec_eq_settle, hi]
    exact congrArg _ (settle_regWrite_select a s r rest)
  · rw [exec_eq_settle, hi, startOf, startWriteReg_of_le hle, settle_regWrite_addr_err]
  · rw [exec_eq_settle, startOf, startWriteReg_of_tooLong hlong, settle_startIllegal]

/-- Settles O27: as for WRITE_REG; the received bytes are the masked word, and a one-byte read refreshes its image. -/
theorem readRegOutcome : Obligations.ReadRegOutcome := by
  intro s a n
  refine ⟨fun hpos hle l v rest hi => ?_, fun hpos hle l rest hi => ?_, fun hn r rest hi => ?_, fun hle rest hi => ?_,
    fun hlong => ?_⟩
  · rw [exec_eq_settle, hi, startOf, startReadReg_of_le hle, settle_regRead_ok a (by omega), packBytes_byteLanes hle,
      refreshImage_byteLanes]
    rfl
  · rw [exec_eq_settle, hi, startOf, startReadReg_of_le hle, settle_regRead_data_err a (by omega)]
  · subst hn
    rw [exec_eq_settle, hi]
    exact congrArg _ (settle_regRead_select a s r rest)
  · rw [exec_eq_settle, hi, startOf, startReadReg_of_le hle, settle_regRead_addr_err]
  · rw [exec_eq_settle, startOf, startReadReg_of_tooLong hlong, settle_startIllegal]

/-- Settles O28: SELECT_W and SELECT_R start as WRITE_REG and READ_REG with LEN 0 do, whose outcome is known. -/
theorem selectOutcome : Obligations.SelectOutcome := by
  intro s a arg r rest hi
  constructor
  · intro i hmem
    simp only [List.mem_cons, List.not_mem_nil, or_false] at hmem
    obtain ⟨-, hselect, -⟩ := writeRegOutcome s a 0#3 arg
    rcases hmem with rfl | rfl
    · exact hselect rfl r rest hi
    · exact hselect rfl r rest hi
  · intro i hmem
    simp only [List.mem_cons, List.not_mem_nil, or_false] at hmem
    obtain ⟨-, -, hselect, -⟩ := readRegOutcome s a 0#3
    rcases hmem with rfl | rfl
    · exact hselect rfl r rest hi
    · exact hselect rfl r rest hi

end Sys2Proof.Safety
end

section
/-! PROOF. The commands that change no image but `img.COMM` (spec/41_transaction.md R93, R97, spec/44_acquisition.md R132, R134). Each
runs one transaction at most, responds when it returns, and its transaction refreshes no image; the point it waits at shows both. -/

namespace Sys2Proof.Machine

open Sys2Proof.Safety

/-! ### Transactions that leave the images -/

/-- The images but `img.COMM` (R23). -/
def configImages (s : State) : Byte × Byte × Byte × Byte × Byte :=
  (s.imgStatus, s.imgMode, s.imgControl, s.imgFilter, s.imgIo)

/-- The rules that respond as soon as their one transaction returns (R97, R98, R104, R132, R134). -/
def Cont.respondsNext : Cont → Bool
  | .rawWrite => true
  | .rawRead => true
  | .config => true
  | .init _ => false
  | .calRequest _ => false
  | .calPoll _ => false
  | .readConv => true
  | .probe => true

/-- A transaction that refreshes no image: a write, a read of another length than one, or a read of an address that backs no
image (R93). -/
def Transaction.leavesImages (t : Transaction) : Prop := t.dir = .read → t.len = 1 → imageOfRead t.addr = none

/-- A transaction awaited that refreshes no image, under a rule that then responds. -/
def Point.leavesImages : Point → Prop
  | .addrPhase t k => t.leavesImages ∧ k.respondsNext = true
  | .dataPhase t k => t.leavesImages ∧ k.respondsNext = true
  | .pollStart _ => False
  | .pollTime _ => False
  | .pollDelay _ => False

/-- From `s` to `u` the images have stood, and the point reached lets them stand. -/
structure LeavesImages (s u : State) : Prop where
  images : configImages u = configImages s
  point : ∀ p, u.point = some p → p.leavesImages

theorem returnTo_of_respondsNext {k : Cont} (hk : k.respondsNext = true) (r : TxnResult) (s : State) :
    ∃ st d, returnTo k r s = respond st d s := by
  cases k with
  | init stage => cases hk
  | calRequest phase => cases hk
  | calPoll phase => cases hk
  | _ => cases r <;> exact ⟨_, _, rfl⟩

theorem refreshImage_of_leavesImages {t : Transaction} (h : t.leavesImages) (hd : t.dir = .read) (bs : List Byte) (s : State) :
    refreshImage t bs s = s := by
  unfold refreshImage
  split
  · next hlen => rw [updateImageOnRead, h hd hlen]
  · rfl

/-! ### The starts -/

/-- How a command that leaves the images starts: with such a transaction, or with the ILLEGAL response. -/
inductive LeavingStart : (State → State) → Prop
  | illegal : LeavingStart startIllegal
  | transact {t : Transaction} {k : Cont} (ht : t.leavesImages) (hk : k.respondsNext = true) : LeavingStart (beginTransact t k)

theorem LeavingStart.writeReg (a : RegAddr) (n : BitVec 3) (arg : U32) : LeavingStart (startWriteReg a n arg) := by
  by_cases h : n.toNat ≤ 4
  · rw [show startWriteReg a n arg = regWrite a (byteLanes n.toNat arg) .rawWrite from funext (startWriteReg_of_le h a arg)]
    exact .transact nofun rfl
  · rw [show startWriteReg a n arg = startIllegal from funext (startWriteReg_of_tooLong (by omega) a arg)]
    exact .illegal

theorem LeavingStart.readReg {a : RegAddr} {n : BitVec 3} (himage : n = 1#3 → imageOfRead a = none) :
    LeavingStart (startReadReg a n) := by
  by_cases h : n.toNat ≤ 4
  · rw [show startReadReg a n = regRead a n.toNat .rawRead from funext (startReadReg_of_le h a)]
    exact .transact (fun _ hlen => himage (BitVec.eq_of_toNat_eq hlen)) rfl
  · rw [show startReadReg a n = startIllegal from funext (startReadReg_of_tooLong (by omega) a)]
    exact .illegal

/-- `leavesImages` names the one-byte reads of an address without an image as `imageOfRead` does (R93). -/
theorem imageOfRead_eq_none_of_leavesImages {a : RegAddr} {n : BitVec 3} (h : leavesImages (.readReg a n) = true) (hn : n = 1#3) :
    imageOfRead a = none := by
  subst hn
  revert a
  decide

theorem leavingStart_startOf {i : Instr} (h : leavesImages i = true) : LeavingStart (startOf i) := by
  cases i with
  | writeReg a n arg => exact .writeReg a n arg
  | selectW a => exact .writeReg a 0#3 0#32
  | readReg a n => exact .readReg (imageOfRead_eq_none_of_leavesImages h)
  | selectR a => exact .readReg (fun h => absurd h (by decide))
  | readId => exact .readReg (fun _ => rfl)
  | readConv => exact .transact (fun _ _ => rfl) rfl
  | probe => exact .transact (fun _ _ => rfl) rfl
  | illegalOp0 => exact .illegal
  | illegalOpB => exact .illegal
  | illegalOpCF low => exact .illegal
  | illegalWriteRegLen57 bit9 => exact .illegal
  | illegalWriteRegLen67 bit8 => exact .illegal
  | illegalReadRegLen57 bit9 => exact .illegal
  | illegalReadRegLen67 bit8 => exact .illegal
  | _ => cases h

/-! ### The images along a run -/

namespace LeavesImages

theorem respond {s u : State} (h : configImages u = configImages s) (st : RspStatus) (d : U32) :
    LeavesImages s (respond st d u) := ⟨h, nofun⟩

theorem returnTo {s u : State} {k : Cont} (h : configImages u = configImages s) (hk : k.respondsNext = true) (r : TxnResult) :
    LeavesImages s (returnTo k r u) := by
  obtain ⟨st, d, hrespond⟩ := returnTo_of_respondsNext hk r u
  rw [hrespond]
  exact .respond h st d

theorem start {f : State → State} (hf : LeavingStart f) (s : State) : LeavesImages s (f s) := by
  cases hf with
  | illegal => exact .respond rfl _ _
  | transact ht hk =>
    refine ⟨rfl, fun p hp => ?_⟩
    cases hp
    exact ⟨ht, hk⟩

theorem answerAddrPhase {s u : State} {t : Transaction} {k : Cont} (h : LeavesImages s u) (hp : u.point = some (.addrPhase t k))
    (r : BusAnswer) : LeavesImages s (answerAddrPhase t k r u) := by
  obtain ⟨ht, hk⟩ := h.point _ hp
  have hend : configImages (setCS false (storeImage .comm (transactionByte t true u) u)) = configImages s := h.images
  cases r with
  | err => exact .returnTo hend hk .err
  | ok l =>
    simp only [Machine.answerAddrPhase]
    split
    · exact .returnTo hend hk (.ok [])
    · refine ⟨h.images, fun p hp => ?_⟩
      cases hp
      exact ⟨ht, hk⟩

theorem answerDataPhase {s u : State} {t : Transaction} {k : Cont} (h : LeavesImages s u) (hp : u.point = some (.dataPhase t k))
    (r : BusAnswer) : LeavesImages s (answerDataPhase t k r u) := by
  obtain ⟨ht, hk⟩ := h.point _ hp
  have hend : configImages (setCS false u) = configImages s := h.images
  cases r with
  | err => exact .returnTo hend hk .err
  | ok l =>
    simp only [Machine.answerDataPhase]
    split
    · exact .returnTo hend hk (.ok [])
    · next hd =>
      rw [refreshImage_of_leavesImages ht hd]
      exact .returnTo hend hk _

/-- Every event of the environment but a reset leaves the images. -/
theorem reaction {s u v : State} {x : Input} (h : LeavesImages s u) (hr : Reaction u x v) (hx : x ≠ .reset) :
    LeavesImages s v := by
  cases hr with
  | ignored => exact h
  | taken => exact ⟨h.images, h.point⟩
  | reset => exact absurd rfl hx
  | addrPhase hp r => exact h.answerAddrPhase hp r
  | dataPhase hp r => exact h.answerDataPhase hp r
  | pollStart hp t => exact (h.point _ hp).elim
  | pollTime hp t => exact (h.point _ hp).elim
  | pollDelay hp => exact (h.point _ hp).elim

theorem settle {s u : State} {xs : List Input} (h : LeavesImages s u) (hxs : noReset xs) : LeavesImages s (settle xs u) := by
  induction xs generalizing u with
  | nil => exact ⟨h.images, h.point⟩
  | cons x xs ih =>
    obtain ⟨hx, hrest⟩ : Input.reset ≠ x ∧ Input.reset ∉ xs := List.ne_and_not_mem_of_not_mem_cons hxs
    cases hp : u.point with
    | none =>
      rw [settle_ended hp]
      exact ⟨h.images, h.point⟩
    | some p =>
      rw [settle_running (by simp [hp])]
      exact ih (h.reaction (reaction_react x u) hx.symm) hrest

end LeavesImages

theorem configImages_eq_iff {s u : State} : configImages u = configImages s ↔
    u.imgStatus = s.imgStatus ∧ u.imgMode = s.imgMode ∧ u.imgControl = s.imgControl ∧ u.imgFilter = s.imgFilter ∧
      u.imgIo = s.imgIo := by
  simp [configImages]

end Sys2Proof.Machine

namespace Sys2Proof.Safety

open Sys2Proof.Machine

/-- Settles O53: such a command starts with at most one transaction that refreshes no image (`leavingStart_startOf`), and no event of
the environment but a reset makes it touch one (`LeavesImages.settle`). -/
theorem otherCommandsLeaveImages : Obligations.OtherCommandsLeaveImages := by
  intro i s u hi hs hexec
  rw [exec_eq_settle] at hexec
  cases hexec
  exact configImages_eq_iff.mp ((LeavesImages.start (leavingStart_startOf hi) s).settle hs).images

end Sys2Proof.Safety
end

section
/-! PROOF. The configuration commands and INIT (spec/42_configuration.md R103 to R113): the whole state in which each ends. Both are made
of `ConfigWrite`; a rule that answers its transaction's result with a response ends with the frame's status. INIT's stages pass one to
the next, two ok answers a write, so a run of INIT is the writes it has made and the stage at which it ends. -/

namespace Sys2Proof.Machine

open Sys2Proof.Safety

/-! ### One configuration write -/

/-- The state in which a configuration write awaits its first answer: its image is written, and its command byte sent (R103). -/
theorem settle_configWrite_unanswered (a : RegAddr) (x : Image) (v : Byte) (k : Cont) {s : State} (hi : s.inputs = []) :
    settle [] (configWrite a x v k s) =
      { storeImage x v s with
        imgComm := commByte s.params.commLayout a false false
        cs := true
        point := some (.addrPhase ⟨a, .write, 1, [v]⟩ k)
        trace := s.trace ++ [.setCS true, addressRequest s.params a false] } := by
  rw [settle_nil, configWrite, regWrite, beginTransact_eq]
  simp [hi, transactionByte, directionBit, addressRequest]

/-- What the answer to its data phase makes a write transaction return (R90). -/
def writeResult : BusAnswer → TxnResult
  | .ok _ => .ok []
  | .err => .err

/-- A configuration write whose data phase is answered returns that answer's result to its rule. -/
theorem settle_configWrite_data (a : RegAddr) (x : Image) (v : Byte) (k : Cont) (s : State) (l : U32) (r : BusAnswer)
    (xs : List Input) :
    settle (.bus (.ok l) :: .bus r :: xs) (configWrite a x v k s) =
      settle xs (returnTo k (writeResult r) (afterFrame ⟨a, .write, 1, [v]⟩ k (storeImage x v s))) := by
  cases r with
  | err => exact settle_transact_data_err _ _ _ _ _ one_ne_zero
  | ok l' => exact settle_transact_write _ _ _ _ _ _ one_ne_zero rfl

/-- Where the rule then responds with the result, the command has ended with the answer's status (R108, R112). -/
theorem settle_configWrite_data_ended (a : RegAddr) (x : Image) (v : Byte) {k : Cont} (s : State) (l : U32) {r : BusAnswer}
    (rest : List Input) (hk : ∀ u, returnTo k (writeResult r) u = respond (statusOf r) 0#32 u) :
    settle (.bus (.ok l) :: .bus r :: rest) (configWrite a x v k s) =
      { ended (storeImage x v s) (writeFrame s.params a [v]) (statusOf r) 0#32 rest with
        imgComm := commByte s.params.commLayout a false true } := by
  rw [settle_configWrite_data, hk, settle_ended rfl]
  simp [respond_eq, afterFrame, ended, writeFrame, addressRequest, transactionByte, directionBit, dataRequest]

/-- A configuration write whose address phase fails has no data phase; its image stays written (R103). -/
theorem settle_configWrite_addr_err (a : RegAddr) (x : Image) (v : Byte) {k : Cont} (s : State) (rest : List Input)
    (hk : ∀ u, returnTo k .err u = respond .busError 0#32 u) :
    settle (.bus .err :: rest) (configWrite a x v k s) =
      { ended (storeImage x v s) (addressFrame s.params a false) .busError 0#32 rest with
        imgComm := commByte s.params.commLayout a false true } := by
  rw [configWrite, regWrite, settle_transact_addr_err, hk, settle_ended rfl]
  simp [respond_eq, ended, addressFrame, addressRequest, transactionByte, directionBit]

/-! ### A configuration command (R104 to R108) -/

theorem returnTo_config (r : BusAnswer) (s : State) : returnTo .config (writeResult r) s = respond (statusOf r) 0#32 s := by
  cases r with
  | ok l => rfl
  | err => rfl

section
variable {i : Instr} {s : State} {a : RegAddr} {x : Image} {v : Byte} (hstart : startOf i s = configWrite a x v .config s)
include hstart

theorem exec_config_unanswered (hi : s.inputs = []) :
    exec i s = .next
      { storeImage x v s with
        imgComm := commByte s.params.commLayout a false false
        cs := true
        point := some (.addrPhase ⟨a, .write, 1, [v]⟩ .config)
        trace := s.trace ++ [.setCS true, addressRequest s.params a false] } := by
  rw [exec_eq_settle, hstart, hi, settle_configWrite_unanswered a x v .config hi]

theorem exec_config_data {l : U32} {r : BusAnswer} {rest : List Input} (hi : s.inputs = .bus (.ok l) :: .bus r :: rest) :
    exec i s = .next
      { ended (storeImage x v s) (writeFrame s.params a [v]) (statusOf r) 0#32 rest with
        imgComm := commByte s.params.commLayout a false true } := by
  rw [exec_eq_settle, hstart, hi, settle_configWrite_data_ended a x v s l rest (returnTo_config r)]

theorem exec_config_addr_err {rest : List Input} (hi : s.inputs = .bus .err :: rest) :
    exec i s = .next
      { ended (storeImage x v s) (addressFrame s.params a false) .busError 0#32 rest with
        imgComm := commByte s.params.commLayout a false true } := by
  rw [exec_eq_settle, hstart, hi, settle_configWrite_addr_err a x v s rest (returnTo_config .err)]

end

/-! ### The write of each command (R104 to R107) -/

theorem startOf_cfgMode (md : BitVec 3) (oscpd chcon refsel negbuf chop : Bool) (s : State) :
    startOf (.cfgMode md oscpd chcon refsel negbuf chop) s =
      configWrite 1#4 .mode (buildMode s.params.modeLayout md oscpd chcon refsel negbuf chop) .config s := rfl

theorem startOf_cfgChannel (ch : BitVec 4) (rn : BitVec 3) (pol : Bool) (s : State) :
    startOf (.cfgChannel ch rn pol) s = configWrite 2#4 .control (buildControl s.params.controlLayout ch rn pol) .config s := rfl

theorem startOf_cfgFilter (sf : Byte) (s : State) : startOf (.cfgFilter sf) s = configWrite 3#4 .filter sf .config s := rfl

theorem startOf_cfgIo (p1dir p2dir : Bool) (s : State) :
    startOf (.cfgIo p1dir p2dir) s = configWrite 7#4 .io (buildIo s.params.ioLayout p1dir p2dir) .config s := rfl

/-! ### INIT's writes (R111) -/

/-- The address of a stage's write. -/
def initAddr : InitStage → RegAddr
  | .io => 7#4
  | .filter => 3#4
  | .control => 2#4
  | .mode => 1#4

/-- The image of a stage's write. -/
def initImage : InitStage → Image
  | .io => .io
  | .filter => .filter
  | .control => .control
  | .mode => .mode

/-- The byte of a stage's write, built from R113's parameters. -/
def initByte (p : Params) : InitStage → Byte
  | .io => buildIo p.ioLayout p.initP1dir p.initP2dir
  | .filter => buildFilter p.initFilter
  | .control => buildControl p.controlLayout p.initCh p.initRn p.initPol
  | .mode => buildMode p.modeLayout 2#3 p.initOscpd p.initChcon p.initRefsel p.initNegbuf p.initChop

theorem startInitStage_eq (stage : InitStage) (s : State) :
    startInitStage stage s = configWrite (initAddr stage) (initImage stage) (initByte s.params stage) (.init stage) s := by
  cases stage with
  | io => rfl
  | filter => rfl
  | control => rfl
  | mode => rfl

/-- What one successful write of INIT leaves for the next stage: its image and its frame. -/
def initWritten (s : State) (stage : InitStage) : State :=
  { storeImage (initImage stage) (initByte s.params stage) s with
    trace := s.trace ++ writeFrame s.params (initAddr stage) [initByte s.params stage] }

@[simp] theorem initWritten_params (s : State) (stage : InitStage) : (initWritten s stage).params = s.params :=
  storeImage_params _ _ s

/-- The start of a stage sets `img.COMM`, chip-select and the point, whatever they were. -/
theorem startInitStage_overwrites (stage : InitStage) (s : State) (b : Byte) (cs : Bool) (p : Option Point) :
    startInitStage stage { s with imgComm := b, cs := cs, point := p } = startInitStage stage s := by
  cases stage with
  | io => rfl
  | filter => rfl
  | control => rfl
  | mode => rfl

/-- Up to what the next stage overwrites, a stage's write ends in its image and its frame. -/
theorem afterFrame_initStage (stage : InitStage) (s : State) :
    afterFrame ⟨initAddr stage, .write, 1, [initByte s.params stage]⟩ (.init stage)
        (storeImage (initImage stage) (initByte s.params stage) s) =
      { initWritten s stage with
        imgComm := commByte s.params.commLayout (initAddr stage) false true
        cs := false
        point := some (.dataPhase ⟨initAddr stage, .write, 1, [initByte s.params stage]⟩ (.init stage)) } := by
  simp [afterFrame, initWritten, writeFrame, addressRequest, transactionByte, directionBit, dataRequest]

/-- A successful write passes to the next stage. -/
theorem settle_initStage_passes {stage next : InitStage} (hnext : nextInitStage stage = some next) (s : State) (l l' : U32)
    (xs : List Input) :
    settle (.bus (.ok l) :: .bus (.ok l') :: xs) (startInitStage stage s) = settle xs (startInitStage next (initWritten s stage)) := by
  rw [startInitStage_eq stage, settle_configWrite_data, afterFrame_initStage]
  simp only [writeResult, returnTo, afterInit, hnext, startInitStage_overwrites]

/-- INIT comes from one stage to another by the successful writes of the stages listed. -/
inductive InitPasses : InitStage → List InitStage → InitStage → Prop
  | refl (stage : InitStage) : InitPasses stage [] stage
  | step {stage next last : InitStage} {stages : List InitStage} (hnext : nextInitStage stage = some next)
      (h : InitPasses next stages last) : InitPasses stage (stage :: stages) last

/-- Each write that is passed takes two ok answers. -/
theorem InitPasses.settle {stage last : InitStage} {stages : List InitStage} (h : InitPasses stage stages last) {oks : List U32}
    (hlen : oks.length = 2 * stages.length) (s : State) (xs : List Input) :
    settle (oks.map (fun l => .bus (.ok l)) ++ xs) (startInitStage stage s) =
      Machine.settle xs (startInitStage last (stages.foldl initWritten s)) := by
  induction h generalizing oks s with
  | refl stage =>
    obtain rfl : oks = [] := List.length_eq_zero_iff.mp hlen
    rfl
  | step hnext h ih =>
    match oks, hlen with
    | l :: l' :: oks, hlen =>
      exact (settle_initStage_passes hnext s l l' _).trans (ih (by simpa [Nat.mul_add] using hlen) _)

/-- The frame of a stage's write. -/
def initFrame (p : Params) (stage : InitStage) : List PortEvent := writeFrame p (initAddr stage) [initByte p stage]

/-- The writes made so far: the images of their stages hold their bytes, and their frames stand in the trace. -/
theorem foldl_initWritten_eq (stages : List InitStage) (s : State) :
    stages.foldl initWritten s =
      { s with
        imgIo := if .io ∈ stages then initByte s.params .io else s.imgIo
        imgFilter := if .filter ∈ stages then initByte s.params .filter else s.imgFilter
        imgControl := if .control ∈ stages then initByte s.params .control else s.imgControl
        imgMode := if .mode ∈ stages then initByte s.params .mode else s.imgMode
        trace := s.trace ++ stages.flatMap (initFrame s.params) } := by
  induction stages generalizing s with
  | nil => simp
  | cons stage stages ih =>
    rw [List.foldl_cons, ih]
    cases stage with
    | io => simp [initWritten, storeImage, initImage, initFrame]
    | filter => simp [initWritten, storeImage, initImage, initFrame]
    | control => simp [initWritten, storeImage, initImage, initFrame]
    | mode => simp [initWritten, storeImage, initImage, initFrame]

theorem params_foldl_initWritten (stages : List InitStage) (s : State) : (stages.foldl initWritten s).params = s.params := by
  rw [foldl_initWritten_eq]

/-! ### INIT to its response (R112) -/

/-- INIT ended in its write of stage `last`, after the successful writes of `stages`: it zeroed the images, wrote those of the stages
it came to, and left the later ones 0x00. -/
def initEnded (s : State) (stages : List InitStage) (last : InitStage) (frame : List PortEvent) (status : RspStatus)
    (rest : List Input) : State :=
  { ended s (stages.flatMap (initFrame s.params) ++ frame) status 0#32 rest with
    imgComm := commByte s.params.commLayout (initAddr last) false true
    imgStatus := 0x00#8
    imgIo := if .io ∈ stages ++ [last] then initByte s.params .io else 0x00#8
    imgFilter := if .filter ∈ stages ++ [last] then initByte s.params .filter else 0x00#8
    imgControl := if .control ∈ stages ++ [last] then initByte s.params .control else 0x00#8
    imgMode := if .mode ∈ stages ++ [last] then initByte s.params .mode else 0x00#8 }

theorem initEnded_eq (s : State) (stages : List InitStage) (last : InitStage) (frame : List PortEvent) (status : RspStatus)
    (rest : List Input) :
    { ended (storeImage (initImage last) (initByte s.params last) (stages.foldl initWritten (zeroImages s))) frame status 0#32 rest with
      imgComm := commByte s.params.commLayout (initAddr last) false true } = initEnded s stages last frame status rest := by
  rw [foldl_initWritten_eq]
  cases last with
  | io => simp [initEnded, ended, storeImage, initImage, zeroImages]
  | filter => simp [initEnded, ended, storeImage, initImage, zeroImages]
  | control => simp [initEnded, ended, storeImage, initImage, zeroImages]
  | mode => simp [initEnded, ended, storeImage, initImage, zeroImages]

section
variable {s : State} {stages : List InitStage} {last : InitStage} {oks : List U32} (h : InitPasses .io stages last)
  (hlen : oks.length = 2 * stages.length)
include h hlen

/-- INIT in its write of stage `last`, two ok answers a write passed. -/
theorem exec_init_at {xs : List Input} (hi : s.inputs = oks.map (fun l => .bus (.ok l)) ++ xs) :
    exec .init s = .next (settle xs (configWrite (initAddr last) (initImage last) (initByte s.params last) (.init last)
      (stages.foldl initWritten (zeroImages s)))) := by
  rw [exec_eq_settle, hi, startOf, startInit, h.settle hlen, startInitStage_eq, params_foldl_initWritten, zeroImages_params]

/-- The data phase's answer ends INIT if it is an error, or if its stage is the last. -/
theorem exec_init_data {l : U32} {r : BusAnswer} {rest : List Input}
    (hr : ∀ u, returnTo (.init last) (writeResult r) u = respond (statusOf r) 0#32 u)
    (hi : s.inputs = oks.map (fun l => .bus (.ok l)) ++ .bus (.ok l) :: .bus r :: rest) :
    exec .init s = .next (initEnded s stages last (initFrame s.params last) (statusOf r) rest) := by
  rw [exec_init_at h hlen hi, settle_configWrite_data_ended _ _ _ _ _ _ hr, params_foldl_initWritten, ← initEnded_eq]
  rfl

theorem exec_init_addr_err {rest : List Input} (hi : s.inputs = oks.map (fun l => .bus (.ok l)) ++ .bus .err :: rest) :
    exec .init s = .next (initEnded s stages last (addressFrame s.params (initAddr last) false) .busError rest) := by
  rw [exec_init_at h hlen hi, settle_configWrite_addr_err _ _ _ _ _ (fun _ => rfl), params_foldl_initWritten, ← initEnded_eq]
  rfl

end

/-- The four stages in R111's order. -/
def initStages : List InitStage := [.io, .filter, .control, .mode]

theorem initPasses_take {k : Nat} (hk : k < 4) : InitPasses .io (initStages.take k) (initStages.getD k .io) := by
  match k, hk with
  | 0, _ => exact .refl _
  | 1, _ => exact .step rfl (.refl _)
  | 2, _ => exact .step rfl (.step rfl (.refl _))
  | 3, _ => exact .step rfl (.step rfl (.step rfl (.refl _)))

/-- An error after fewer than eight ok answers ends INIT in the write that its number names, in the phase that its parity names. -/
theorem exec_init_err {s : State} {oks : List U32} {rest : List Input} (hlt : oks.length < 8)
    (hi : s.inputs = oks.map (fun l => .bus (.ok l)) ++ .bus .err :: rest) :
    let last := initStages.getD (oks.length / 2) .io
    exec .init s = .next (initEnded s (initStages.take (oks.length / 2)) last
      (if oks.length % 2 = 0 then addressFrame s.params (initAddr last) false else initFrame s.params last) .busError rest) := by
  intro last
  have hk : oks.length / 2 < 4 := by omega
  have htake : (initStages.take (oks.length / 2)).length = oks.length / 2 := List.length_take_of_le (Nat.le_of_lt hk)
  have hpasses := initPasses_take hk
  rcases Nat.mod_two_eq_zero_or_one oks.length with heven | hodd
  · rw [if_pos heven]
    exact exec_init_addr_err hpasses (by omega) hi
  · rw [if_neg (Nat.mod_two_ne_zero.mpr hodd)]
    obtain rfl | ⟨front, l, rfl⟩ := List.eq_nil_or_concat' oks
    · cases hodd
    · have hfront : (front ++ [l]).length = front.length + 1 := List.length_append
      exact exec_init_data (oks := front) (r := .err) hpasses (by omega) (fun _ => rfl) (by simpa using hi)

end Sys2Proof.Machine

namespace Sys2Proof.Safety

open Sys2Proof.Machine

/-- Settles O31: each command is one configuration write (`startOf` is `configWrite`), and each clause is that write's end. -/
theorem configurationOutcome : Obligations.ConfigurationOutcome := by
  intro s
  refine ⟨fun hi => ⟨?_, ?_, ?_, ?_⟩, fun l r rest hi => ⟨?_, ?_, ?_, ?_⟩, fun rest hi => ⟨?_, ?_, ?_, ?_⟩⟩
  · exact fun _ _ _ _ _ _ => exec_config_unanswered (startOf_cfgMode _ _ _ _ _ _ s) hi
  · exact fun _ _ _ => exec_config_unanswered (startOf_cfgChannel _ _ _ s) hi
  · exact fun _ => exec_config_unanswered (startOf_cfgFilter _ s) hi
  · exact fun _ _ => exec_config_unanswered (startOf_cfgIo _ _ s) hi
  · exact fun _ _ _ _ _ _ => exec_config_data (startOf_cfgMode _ _ _ _ _ _ s) hi
  · exact fun _ _ _ => exec_config_data (startOf_cfgChannel _ _ _ s) hi
  · exact fun _ => exec_config_data (startOf_cfgFilter _ s) hi
  · exact fun _ _ => exec_config_data (startOf_cfgIo _ _ s) hi
  · exact fun _ _ _ _ _ _ => exec_config_addr_err (startOf_cfgMode _ _ _ _ _ _ s) hi
  · exact fun _ _ _ => exec_config_addr_err (startOf_cfgChannel _ _ _ s) hi
  · exact fun _ => exec_config_addr_err (startOf_cfgFilter _ s) hi
  · exact fun _ _ => exec_config_addr_err (startOf_cfgIo _ _ s) hi

/-- Settles O32: `initPasses_take` gives the writes that pass and the stage that ends the run, by the number of ok answers; the end is
that stage's failed request, or the answer to the last write's data phase. -/
theorem initOutcome : Obligations.InitOutcome := by
  intro s p io control mode writes
  refine ⟨fun oks rest hlen hi => ?_, fun oks rest hlen hi => ?_⟩
  · match oks, hlen with
    | [l₁, l₂, l₃, l₄, l₅, l₆, l, l'], _ =>
      exact exec_init_data (oks := [l₁, l₂, l₃, l₄, l₅, l₆]) (r := .ok l') (initPasses_take (k := 3) (by decide)) rfl
        (fun _ => rfl) hi
  · refine (exec_init_err hlen hi).trans ?_
    have hk : oks.length / 2 < 4 := by omega
    generalize oks.length / 2 = k at hk
    match k, hk with
    | 0, _ => rfl
    | 1, _ => rfl
    | 2, _ => rfl
    | 3, _ => rfl

end Sys2Proof.Safety
end

section
/-! PROOF. A configuration command and INIT never read the chip (spec/42_configuration.md R110, R111). The point such a command waits at
is in a write transaction, and its rule responds or begins another write: no move of it, a reset included, emits a BusIn. -/

namespace Sys2Proof.Machine

open Sys2Proof.Safety

/-! ### Events without a read request -/

/-- From `s` to `u` port events have been emitted, none of them a read request. -/
def ReadsNothing (s u : State) : Prop := ∃ ev, u.trace = s.trace ++ ev ∧ ev.countP isBusIn = 0

theorem ReadsNothing.of_trace_eq {s u : State} (h : u.trace = s.trace) : ReadsNothing s u := ⟨[], by simp [h], rfl⟩

theorem ReadsNothing.trans {s t u : State} (hst : ReadsNothing s t) (htu : ReadsNothing t u) : ReadsNothing s u := by
  obtain ⟨ev, htrace, hcount⟩ := hst
  obtain ⟨ev', htrace', hcount'⟩ := htu
  exact ⟨ev ++ ev', by simp [htrace, htrace'], by rw [List.countP_append, hcount, hcount']⟩

theorem ReadsNothing.emit {e : PortEvent} (he : isBusIn e = false) (s : State) : ReadsNothing s (emit e s) :=
  ⟨[e], rfl, by simp [he]⟩

theorem ReadsNothing.setCS (b : Bool) (s : State) : ReadsNothing s (setCS b s) := ⟨[.setCS b], rfl, rfl⟩

theorem ReadsNothing.storeImage (x : Image) (v : Byte) (s : State) : ReadsNothing s (storeImage x v s) :=
  .of_trace_eq (storeImage_trace x v s)

theorem isBusIn_dataRequest_of_write {t : Transaction} (ht : t.dir = .write) (s : State) : isBusIn (dataRequest t s) = false := by
  simp [dataRequest, ht, isBusIn]

/-! ### The points of a configuration command -/

/-- The rules made of configuration writes (R104 to R107, R111). -/
def Cont.configures : Cont → Bool
  | .rawWrite => false
  | .rawRead => false
  | .config => true
  | .init _ => true
  | .calRequest _ => false
  | .calPoll _ => false
  | .readConv => false
  | .probe => false

/-- A phase of a write transaction, under a rule made of configuration writes. -/
def Point.writes : Point → Prop
  | .addrPhase t k => t.dir = .write ∧ k.configures = true
  | .dataPhase t k => t.dir = .write ∧ k.configures = true
  | .pollStart _ => False
  | .pollTime _ => False
  | .pollDelay _ => False

/-- From `s` to `u` nothing has been read, and the point reached leads to no read. -/
structure WritesOnly (s u : State) : Prop where
  events : ReadsNothing s u
  point : ∀ p, u.point = some p → p.writes

namespace WritesOnly

theorem of_ended {s u : State} (h : ReadsNothing s u) (hp : u.point = none) : WritesOnly s u :=
  ⟨h, fun _ hp' => nomatch hp.symm.trans hp'⟩

theorem respond {s u : State} (h : ReadsNothing s u) (st : RspStatus) (d : U32) : WritesOnly s (respond st d u) :=
  .of_ended (h.trans (.emit (e := .respond st d) rfl u)) rfl

theorem respondResult {s u : State} (h : ReadsNothing s u) (r : TxnResult) : WritesOnly s (respondResult r u) := by
  cases r with
  | ok bs => exact .respond h _ _
  | err => exact .respond h _ _

theorem configWrite {s u : State} (h : ReadsNothing s u) (a : RegAddr) (x : Image) (v : Byte) {k : Cont} (hk : k.configures = true) :
    WritesOnly s (configWrite a x v k u) := by
  refine ⟨(h.trans (.storeImage x v u)).trans ?_, fun p hp => ?_⟩
  · rw [Machine.configWrite, regWrite, beginTransact_eq]
    exact ⟨_, rfl, rfl⟩
  · cases hp
    exact ⟨rfl, hk⟩

theorem startInitStage {s u : State} (h : ReadsNothing s u) (stage : InitStage) : WritesOnly s (startInitStage stage u) := by
  rw [startInitStage_eq]
  exact .configWrite h _ _ _ rfl

/-- A rule made of configuration writes responds when its write returns, or begins the next write. -/
theorem returnTo {s u : State} {k : Cont} (h : ReadsNothing s u) (hk : k.configures = true) (r : TxnResult) :
    WritesOnly s (returnTo k r u) := by
  cases k with
  | config => exact .respondResult h r
  | init stage =>
    cases r with
    | err => exact .respond h _ _
    | ok bs =>
      simp only [Machine.returnTo, afterInit]
      split
      · exact .startInitStage h _
      · exact .respond h _ _
  | _ => cases hk

/-- Every start of such a command is a configuration write. -/
theorem startOf {i : Instr} (hi : onlyWrites i = true) (s : State) : WritesOnly s (startOf i s) := by
  have hrefl : ReadsNothing s s := .of_trace_eq rfl
  have hzero : ReadsNothing s (zeroImages s) := .of_trace_eq rfl
  cases i with
  | init => exact .startInitStage hzero .io
  | cfgMode md oscpd chcon refsel negbuf chop => exact .configWrite hrefl _ _ _ rfl
  | cfgChannel ch rn pol => exact .configWrite hrefl _ _ _ rfl
  | cfgFilter sf => exact .configWrite hrefl _ _ _ rfl
  | cfgIo p1dir p2dir => exact .configWrite hrefl _ _ _ rfl
  | _ => cases hi

theorem answerAddrPhase {s u : State} {t : Transaction} {k : Cont} (h : WritesOnly s u) (hp : u.point = some (.addrPhase t k))
    (r : BusAnswer) : WritesOnly s (answerAddrPhase t k r u) := by
  obtain ⟨ht, hk⟩ := h.point _ hp
  have hstore := h.events.trans (.storeImage .comm (transactionByte t true u) u)
  have hend := hstore.trans (.setCS false _)
  cases r with
  | err => exact .returnTo hend hk .err
  | ok l =>
    simp only [Machine.answerAddrPhase]
    split
    · exact .returnTo hend hk (.ok [])
    · refine ⟨hstore.trans (.emit (isBusIn_dataRequest_of_write ht u) _), fun p hp => ?_⟩
      cases hp
      exact ⟨ht, hk⟩

theorem answerDataPhase {s u : State} {t : Transaction} {k : Cont} (h : WritesOnly s u) (hp : u.point = some (.dataPhase t k))
    (r : BusAnswer) : WritesOnly s (answerDataPhase t k r u) := by
  obtain ⟨ht, hk⟩ := h.point _ hp
  have hend := h.events.trans (.setCS false u)
  cases r with
  | err => exact .returnTo hend hk .err
  | ok l =>
    simp only [Machine.answerDataPhase, ht]
    exact .returnTo hend hk (.ok [])

/-- Every event of the environment keeps it so; a reset ends the command and emits nothing. -/
theorem reaction {s u v : State} {x : Input} (h : WritesOnly s u) (hr : Reaction u x v) : WritesOnly s v := by
  cases hr with
  | ignored => exact h
  | taken => exact ⟨h.events, h.point⟩
  | reset => exact .of_ended h.events rfl
  | addrPhase hp r => exact h.answerAddrPhase hp r
  | dataPhase hp r => exact h.answerDataPhase hp r
  | pollStart hp t => exact (h.point _ hp).elim
  | pollTime hp t => exact (h.point _ hp).elim
  | pollDelay hp => exact (h.point _ hp).elim

theorem settle {s u : State} (h : WritesOnly s u) (xs : List Input) : WritesOnly s (settle xs u) := by
  induction xs generalizing u with
  | nil => exact ⟨h.events, h.point⟩
  | cons x xs ih =>
    cases hp : u.point with
    | none =>
      rw [settle_ended hp]
      exact ⟨h.events, h.point⟩
    | some p =>
      rw [settle_running (by simp [hp])]
      exact ih (h.reaction (reaction_react x u))

end WritesOnly

end Sys2Proof.Machine

namespace Sys2Proof.Safety

open Sys2Proof.Machine

/-- Settles O52: the command starts with a configuration write (`WritesOnly.startOf`), and no event of the environment leads it to a
read (`WritesOnly.settle`). -/
theorem configurationNeverReads : Obligations.ConfigurationNeverReads := by
  intro i s u hi hexec
  rw [exec_eq_settle] at hexec
  cases hexec
  exact ((WritesOnly.startOf hi s).settle s.inputs).events

end Sys2Proof.Safety
end

section
/-! PROOF. CALIBRATE (spec/43_calibration.md R114 to R130) on runs written out: the whole state in which each ends. A phase is its request
write, its entry sample and its poll iterations, and each begins with a transaction that overwrites `img.COMM`, chip-select and the point; so
what a phase hands on is the state it began in with the mode image, `cal_state`, `poll_start` and the trace replaced. -/

namespace Sys2Proof.Machine

open Sys2Proof.Safety

/-! ### The limit, the comparator and the idle sense (R116, R119, R120) -/

theorem toNat_minU32 (a b : U32) : (minU32 a b).toNat = min a.toNat b.toNat := by
  unfold minU32
  split
  · next h => exact (min_eq_left (BitVec.le_def.mp h)).symm
  · next h => exact (min_eq_right (BitVec.le_def.mp (BitVec.le_of_lt (BitVec.not_le.mp h)))).symm

theorem minU32_eq_effectiveLimit (p : Params) (timeout : U32) : minU32 timeout p.calHardLimitMs = effectiveLimit p timeout := by
  rw [effectiveLimit, ← toNat_minU32, BitVec.ofNat_toNat, BitVec.setWidth_eq]

theorem effectiveLimit_eq_zero {p : Params} {timeout : U32} (h : timeout = 0#32 ∨ p.calHardLimitMs = 0#32) :
    effectiveLimit p timeout = 0#32 := by
  rcases h with h | h
  · simp [effectiveLimit, h]
  · simp [effectiveLimit, h]

theorem toNat_elapsed (start t : U32) : (elapsed start t).toNat = (t.toNat + 2 ^ 32 - start.toNat) % 2 ^ 32 := by
  have hstart := start.isLt
  rw [elapsed, BitVec.toNat_sub]
  congr 1
  omega

theorem pollExpired_iff (start limit t : U32) : pollExpired start limit t = true ↔ expiredAt start limit t := by
  rw [pollExpired, decide_eq_true_iff, BitVec.le_def, toNat_elapsed, expiredAt]

theorem expiredAt_zero (start t : U32) : expiredAt start 0#32 t := Nat.zero_le _

theorem idleSense_of_readsIdle {p : Params} {v : U32} (h : readsIdle p v) : idleSense p.modeLayout (v.setWidth 8) = true :=
  beq_iff_eq.mpr h

theorem idleSense_of_notIdle {p : Params} {v : U32} (h : notIdle p v) : idleSense p.modeLayout (v.setWidth 8) = false :=
  beq_eq_false_iff_ne.mpr h

/-! ### A phase's request write and entry sample (R115, R117, R123) -/

/-- The byte of a phase's request: the mode image with the mode code replaced. -/
def requestByte (phase : CalPhase) (s : State) : Byte := withMd s.params.modeLayout s.imgMode (calCode phase)

/-- What the iterations of a phase leave for its next read, if the phase began in `s` and was entered at time `t`. -/
def polled (phase : CalPhase) (t : U32) (rounds : List PollRound) (s : State) : State :=
  { s with
    imgMode := modeAfterRounds (requestByte phase s) rounds, calState := awaitState phase, pollStart := t
    trace := s.trace ++ phaseEvents s.params (requestByte phase s) rounds }

/-- What a transaction overwrites when it begins: `img.COMM`, chip-select and the point. -/
def betweenFrames (comm : Byte) (p : Point) (s : State) : State := { s with imgComm := comm, cs := false, point := some p }

theorem pollRead_betweenFrames (phase : CalPhase) (comm : Byte) (p : Point) (s : State) :
    pollRead phase (betweenFrames comm p s) = pollRead phase s := rfl

theorem requestCal_betweenFrames (phase : CalPhase) (comm : Byte) (p : Point) (s : State) :
    requestCal phase (betweenFrames comm p s) = requestCal phase s := rfl

/-- A phase's request that succeeds, and the entry sample, lead to the first read. -/
theorem settle_requestCal_ok (phase : CalPhase) (s : State) (l l' t : U32) (xs : List Input) :
    settle (.bus (.ok l) :: .bus (.ok l') :: .time t :: xs) (requestCal phase s) =
      settle xs (pollRead phase (polled phase t [] s)) := by
  rw [requestCal, settle_configWrite_data, writeResult, returnTo, afterCalRequest, settle_running rfl,
    react_time_pollStart (p := phase) rfl, answerPollStart,
    ← pollRead_betweenFrames phase (requestComm s.params) (.pollStart phase) (polled phase t [] s)]
  congr 2
  simp [betweenFrames, afterFrame, polled, awaitAt, emit, setCalState, storeImage, phaseEvents, writeFrame, addressRequest, requestComm,
    transactionByte, directionBit, dataRequest, requestByte, modeAfterRounds]

/-- A request whose data phase fails (R126). -/
theorem settle_requestCal_data_err (phase : CalPhase) (s : State) (l : U32) (rest : List Input) :
    settle (.bus (.ok l) :: .bus .err :: rest) (requestCal phase s) =
      { ended s (writeFrame s.params 1#4 [requestByte phase s]) .busError 0#32 rest with
        imgComm := requestComm s.params, imgMode := requestByte phase s, calState := .busFailed } := by
  rw [requestCal, settle_configWrite_data, writeResult, returnTo, afterCalRequest, calBusFailed, settle_ended rfl]
  simp [respond_eq, afterFrame, ended, setCalState, storeImage, writeFrame, addressRequest, requestComm, transactionByte, directionBit,
    dataRequest, requestByte]

/-- A request whose address phase fails (R126). -/
theorem settle_requestCal_addr_err (phase : CalPhase) (s : State) (rest : List Input) :
    settle (.bus .err :: rest) (requestCal phase s) =
      { ended s (addressFrame s.params 1#4 false) .busError 0#32 rest with
        imgComm := requestComm s.params, imgMode := requestByte phase s, calState := .busFailed } := by
  rw [requestCal, configWrite, regWrite, settle_transact_addr_err, returnTo, afterCalRequest, calBusFailed, settle_ended rfl]
  simp [respond_eq, ended, setCalState, storeImage, addressFrame, addressRequest, requestComm, transactionByte, directionBit, requestByte]

/-! ### One poll read (R118) -/

/-- What a read that is not the command's last event leaves: the byte in the mode image, and the frame. -/
def readBack (v : U32) (s : State) : State :=
  { s with imgMode := v.setWidth 8, trace := s.trace ++ readFrame s.params 1#4 1 }

/-- A read that succeeds hands its byte to the poll. -/
theorem settle_pollRead_ok (phase : CalPhase) (s : State) (a v : U32) (xs : List Input) :
    settle (readAnswers a v ++ xs) (pollRead phase s) =
      settle xs (afterCalPoll phase (.ok [v.setWidth 8])
        (betweenFrames (pollComm s.params) (.dataPhase ⟨1#4, .read, 1, []⟩ (.calPoll phase)) (readBack v s))) := by
  rw [pollRead, regRead, readAnswers, List.cons_append, List.cons_append, List.nil_append,
    settle_transact_read _ _ _ _ _ _ one_ne_zero rfl, byteLanes_one, returnTo]
  simp [refreshImage, updateImageOnRead_eq, byteAt, afterFrame, betweenFrames, readBack, readFrame, addressRequest, pollComm,
    transactionByte, directionBit, dataRequest]

/-- A read whose data phase fails (R126). -/
theorem settle_pollRead_data_err (phase : CalPhase) (s : State) (a : U32) (rest : List Input) :
    settle (.bus (.ok a) :: .bus .err :: rest) (pollRead phase s) =
      { ended s (readFrame s.params 1#4 1) .busError 0#32 rest with imgComm := pollComm s.params, calState := .busFailed } := by
  rw [pollRead, regRead, settle_transact_data_err _ _ _ _ _ one_ne_zero, returnTo, afterCalPoll, calBusFailed, settle_ended rfl]
  simp [respond_eq, afterFrame, ended, setCalState, readFrame, addressRequest, pollComm, transactionByte, directionBit, dataRequest]

/-- A read whose address phase fails (R126). -/
theorem settle_pollRead_addr_err (phase : CalPhase) (s : State) (rest : List Input) :
    settle (.bus .err :: rest) (pollRead phase s) =
      { ended s (addressFrame s.params 1#4 true) .busError 0#32 rest with imgComm := pollComm s.params, calState := .busFailed } := by
  rw [pollRead, regRead, settle_transact_addr_err, returnTo, afterCalPoll, calBusFailed, settle_ended rfl]
  simp [respond_eq, ended, setCalState, addressFrame, addressRequest, pollComm, transactionByte, directionBit]

theorem afterCalPoll_idle {v : U32} {s : State} (h : readsIdle s.params v) (phase : CalPhase) :
    afterCalPoll phase (.ok [v.setWidth 8]) s = calPhaseDone phase s := if_pos (idleSense_of_readsIdle h)

theorem afterCalPoll_notIdle {v : U32} {s : State} (h : notIdle s.params v) (phase : CalPhase) :
    afterCalPoll phase (.ok [v.setWidth 8]) s = awaitAt (.pollTime phase) (emit .now s) :=
  if_neg (ne_true_of_eq_false (idleSense_of_notIdle h))

theorem answerPollTime_expired {s : State} {t : U32} (h : expiredAt s.pollStart s.pollLimit t) (phase : CalPhase) :
    answerPollTime phase t s = calTimedOut s := if_pos ((pollExpired_iff _ _ _).mpr h)

theorem answerPollTime_goesOn {s : State} {t : U32} (h : ¬ expiredAt s.pollStart s.pollLimit t) (phase : CalPhase) :
    answerPollTime phase t s =
      if s.params.pollDelayMs = 0#32 then pollRead phase s
      else awaitAt (.pollDelay phase) (emit (.delay s.params.pollDelayMs) s) :=
  if_neg (fun hexpired => h ((pollExpired_iff _ _ _).mp hexpired))

/-- An idle read ends the zero-scale phase and begins the full-scale request (R123). -/
theorem settle_pollRead_zero_idle {s : State} {v : U32} (h : readsIdle s.params v) (a : U32) (xs : List Input) :
    settle (readAnswers a v ++ xs) (pollRead .zero s) = settle xs (requestCal .full (readBack v s)) := by
  rw [settle_pollRead_ok, afterCalPoll_idle (by exact h), calPhaseDone, requestCal_betweenFrames]

/-- An idle read ends the full-scale phase and the command (R124). -/
theorem settle_pollRead_full_idle {s : State} {v : U32} (h : readsIdle s.params v) (a : U32) (rest : List Input) :
    settle (readAnswers a v ++ rest) (pollRead .full s) =
      { ended s (readFrame s.params 1#4 1) .ok 0#32 rest with
        imgComm := pollComm s.params, imgMode := v.setWidth 8, calState := .done } := by
  rw [settle_pollRead_ok, afterCalPoll_idle (by exact h), calPhaseDone, settle_ended rfl]
  simp [respond_eq, ended, setCalState, betweenFrames, readBack]

/-- A read that is not idle is followed by a time sample (R118). -/
theorem settle_pollRead_notIdle {s : State} {v : U32} (h : notIdle s.params v) (phase : CalPhase) (a t : U32) (xs : List Input) :
    settle (readAnswers a v ++ .time t :: xs) (pollRead phase s) =
      settle xs (answerPollTime phase t (betweenFrames (pollComm s.params) (.pollTime phase) (emit .now (readBack v s)))) := by
  rw [settle_pollRead_ok, afterCalPoll_notIdle (by exact h), settle_running rfl, react_time_pollTime (p := phase) rfl]
  rfl

/-- A sample at or beyond the limit ends the command (R120, R125). -/
theorem settle_pollRead_expired {s : State} {v t : U32} (h : notIdle s.params v) (ht : expiredAt s.pollStart s.pollLimit t)
    (phase : CalPhase) (a : U32) (rest : List Input) :
    settle (readAnswers a v ++ .time t :: rest) (pollRead phase s) =
      { ended s (readFrame s.params 1#4 1 ++ [.now]) .timeout 0#32 rest with
        imgComm := pollComm s.params, imgMode := v.setWidth 8, calState := .timedOut } := by
  rw [settle_pollRead_notIdle h, answerPollTime_expired (by exact ht), calTimedOut, settle_ended rfl]
  simp [respond_eq, ended, setCalState, betweenFrames, emit, readBack]

/-! ### The iterations of a phase (R118, R122) -/

/-- What an iteration that goes on leaves for the next read. -/
def iterated (v : U32) (s : State) : State :=
  { s with imgMode := v.setWidth 8, trace := s.trace ++ roundEvents s.params }

/-- An iteration that goes on leads to the next read, over a delay if POLL_DELAY_MS is not 0. -/
theorem settle_pollRead_round {s : State} {r : PollRound} (hidle : notIdle s.params r.lanes)
    (htime : ¬ expiredAt s.pollStart s.pollLimit r.time) (phase : CalPhase) (xs : List Input) :
    settle (roundInputs s.params r ++ xs) (pollRead phase s) = settle xs (pollRead phase (iterated r.lanes s)) := by
  rw [roundInputs, List.append_assoc, List.cons_append, settle_pollRead_notIdle hidle, answerPollTime_goesOn (by exact htime)]
  by_cases hdelay : s.params.pollDelayMs = 0#32
  · rw [if_pos hdelay, if_pos (by exact hdelay), pollRead_betweenFrames]
    simp [iterated, emit, readBack, roundEvents, hdelay]
  · rw [if_neg hdelay, if_neg (by exact hdelay), List.singleton_append, settle_running rfl,
      react_delayDone_pollDelay (p := phase) rfl,
      ← pollRead_betweenFrames phase (pollComm s.params) (.pollDelay phase) (iterated r.lanes s)]
    simp [iterated, betweenFrames, awaitAt, emit, readBack, roundEvents, hdelay]

/-- Any number of iterations that go on. -/
theorem settle_pollRead_rounds {rounds : List PollRound} {s : State} (h : roundsGoOn s.params s.pollStart s.pollLimit rounds)
    (phase : CalPhase) (xs : List Input) :
    settle (rounds.flatMap (roundInputs s.params) ++ xs) (pollRead phase s) =
      settle xs (pollRead phase
        { s with
          imgMode := modeAfterRounds s.imgMode rounds, trace := s.trace ++ rounds.flatMap (fun _ => roundEvents s.params) }) := by
  induction rounds generalizing s with
  | nil => simp [modeAfterRounds]
  | cons r rounds ih =>
    obtain ⟨⟨hidle, htime⟩, hrest⟩ := List.forall_mem_cons.mp h
    rw [List.flatMap_cons, List.append_assoc, settle_pollRead_round hidle htime]
    refine (ih (s := iterated r.lanes s) hrest).trans ?_
    simp [iterated, modeAfterRounds]

/-- A phase up to its last read. -/
theorem settle_phase {p : Params} {s : State} {t : U32} {rounds : List PollRound} (hp : p = s.params)
    (h : roundsGoOn p t s.pollLimit rounds) (phase : CalPhase) (l l' : U32) (xs : List Input) :
    settle (phaseInputs p l l' t rounds ++ xs) (requestCal phase s) = settle xs (pollRead phase (polled phase t rounds s)) := by
  subst hp
  simp only [phaseInputs, List.cons_append]
  rw [settle_requestCal_ok]
  refine (settle_pollRead_rounds (s := polled phase t [] s) h phase xs).trans ?_
  simp [polled, phaseEvents, modeAfterRounds]

/-! ### CALIBRATE from its start (R114, R116) -/

/-- The effective limit is set before the first phase begins. -/
def limited (timeout : U32) (s : State) : State := { s with pollLimit := effectiveLimit s.params timeout }

theorem startOf_calibrate (timeout : U32) (s : State) : startOf (.calibrate timeout) s = requestCal .zero (limited timeout s) := by
  rw [startOf, startCalibrate, minU32_eq_effectiveLimit, limited]

theorem exec_calibrate {timeout : U32} {s : State} {xs : List Input} (hi : s.inputs = xs) :
    exec (.calibrate timeout) s = .next (settle xs (requestCal .zero (limited timeout s))) := by
  rw [exec_eq_settle, startOf_calibrate, hi]

/-- CALIBRATE at the last read of its zero-scale phase. -/
theorem exec_calibrate_polls_zero {timeout l1 l2 t1 : U32} {zero : List PollRound} {s : State} {xs : List Input}
    (hi : s.inputs = phaseInputs s.params l1 l2 t1 zero ++ xs) (hgo : roundsGoOn s.params t1 (effectiveLimit s.params timeout) zero) :
    exec (.calibrate timeout) s = .next (settle xs (pollRead .zero (polled .zero t1 zero (limited timeout s)))) := by
  rw [exec_calibrate hi, settle_phase (by rfl) (by exact hgo)]

/-- What a successful zero-scale phase leaves for the full-scale phase. -/
def zeroScaled (timeout t1 : U32) (zero : List PollRound) (v1 : U32) (s : State) : State :=
  readBack v1 (polled .zero t1 zero (limited timeout s))

/-- The state before the last read of the zero-scale phase, field by field. -/
theorem polled_zero_limited (timeout t1 : U32) (zero : List PollRound) (s : State) :
    polled .zero t1 zero (limited timeout s) =
      { s with
        imgMode := modeAfterRounds (withMd s.params.modeLayout s.imgMode 4#3) zero
        calState := .awaitZeroCal, pollStart := t1, pollLimit := effectiveLimit s.params timeout
        trace := s.trace ++ phaseEvents s.params (withMd s.params.modeLayout s.imgMode 4#3) zero } := rfl

/-- The state before the full-scale request, field by field. -/
theorem zeroScaled_eq (timeout t1 : U32) (zero : List PollRound) (v1 : U32) (s : State) :
    zeroScaled timeout t1 zero v1 s =
      { s with
        imgMode := v1.setWidth 8
        calState := .awaitZeroCal, pollStart := t1, pollLimit := effectiveLimit s.params timeout
        trace := s.trace ++ phaseEvents s.params (withMd s.params.modeLayout s.imgMode 4#3) zero ++ readFrame s.params 1#4 1 } := rfl

/-- The state before the last read of the full-scale phase, field by field. -/
theorem polled_full_zeroScaled (timeout t1 : U32) (zero : List PollRound) (v1 t2 : U32) (full : List PollRound) (s : State) :
    polled .full t2 full (zeroScaled timeout t1 zero v1 s) =
      { s with
        imgMode := modeAfterRounds (withMd s.params.modeLayout (v1.setWidth 8) 5#3) full
        calState := .awaitFullCal, pollStart := t2, pollLimit := effectiveLimit s.params timeout
        trace := s.trace ++ phaseEvents s.params (withMd s.params.modeLayout s.imgMode 4#3) zero ++ readFrame s.params 1#4 1 ++
          phaseEvents s.params (withMd s.params.modeLayout (v1.setWidth 8) 5#3) full } := rfl

/-- CALIBRATE at its full-scale request. -/
theorem exec_calibrate_requests_full {timeout l1 l2 t1 a1 v1 : U32} {zero : List PollRound} {s : State} {xs : List Input}
    (hi : s.inputs = phaseInputs s.params l1 l2 t1 zero ++ (readAnswers a1 v1 ++ xs))
    (hgo : roundsGoOn s.params t1 (effectiveLimit s.params timeout) zero) (hidle : readsIdle s.params v1) :
    exec (.calibrate timeout) s = .next (settle xs (requestCal .full (zeroScaled timeout t1 zero v1 s))) := by
  rw [exec_calibrate_polls_zero hi hgo, settle_pollRead_zero_idle (by exact hidle), zeroScaled]

/-- CALIBRATE at the last read of its full-scale phase. -/
theorem exec_calibrate_polls_full {timeout l1 l2 t1 a1 v1 l3 l4 t2 : U32} {zero full : List PollRound} {s : State} {xs : List Input}
    (hi : s.inputs = phaseInputs s.params l1 l2 t1 zero ++ (readAnswers a1 v1 ++ (phaseInputs s.params l3 l4 t2 full ++ xs)))
    (hgo : roundsGoOn s.params t1 (effectiveLimit s.params timeout) zero) (hidle : readsIdle s.params v1)
    (hgo' : roundsGoOn s.params t2 (effectiveLimit s.params timeout) full) :
    exec (.calibrate timeout) s =
      .next (settle xs (pollRead .full (polled .full t2 full (zeroScaled timeout t1 zero v1 s)))) := by
  rw [exec_calibrate_requests_full hi hgo hidle, settle_phase (by rfl) (by exact hgo')]

/-! ### The requests counted (R129) -/

@[simp] theorem countP_readFrame_isBusIn (p : Params) : (readFrame p 1#4 1).countP isBusIn = 1 := rfl

@[simp] theorem countP_readFrame_isNow (p : Params) : (readFrame p 1#4 1).countP isNow = 0 := rfl

/-- An iteration reads once, with a delay or without. -/
@[simp] theorem countP_roundEvents_isBusIn (p : Params) : (roundEvents p).countP isBusIn = 1 := by
  unfold roundEvents
  split
  · rfl
  · rfl

/-- An iteration samples the time once, with a delay or without. -/
@[simp] theorem countP_roundEvents_isNow (p : Params) : (roundEvents p).countP isNow = 1 := by
  unfold roundEvents
  split
  · rfl
  · rfl

/-- Up to its last read a phase reads once an iteration. -/
@[simp] theorem countP_phaseEvents_isBusIn (p : Params) (v : Byte) (rounds : List PollRound) :
    (phaseEvents p v rounds).countP isBusIn = rounds.length := by
  simp [phaseEvents, writeFrame, addressRequest, isBusIn, List.countP_flatMap, Function.comp_def]

/-- A phase samples the time at its entry and once an iteration. -/
@[simp] theorem countP_phaseEvents_isNow (p : Params) (v : Byte) (rounds : List PollRound) :
    (phaseEvents p v rounds).countP isNow = rounds.length + 1 := by
  simp [phaseEvents, writeFrame, addressRequest, isNow, List.countP_cons, List.countP_flatMap, Function.comp_def]

end Sys2Proof.Machine

namespace Sys2Proof.Safety

open Sys2Proof.Machine

/-- Settles O35: the two phases one after the other, and the idle read that ends the second. -/
theorem calibrateSucceeds : Obligations.CalibrateSucceeds := by
  intro s timeout l1 l2 t1 a1 v1 l3 l4 t2 a2 v2 zero full rest p limit request4 request5 hi hgo hidle hgo' hidle'
  rw [exec_calibrate_polls_full hi hgo hidle hgo', settle_pollRead_full_idle (by exact hidle')]
  simp [ended, polled_full_zeroScaled, p, limit, request4, request5]

/-- Settles O36: the events of `calibrateSucceeds`, counted phase by phase. -/
theorem calibrateReadCount : Obligations.CalibrateReadCount := by
  intro s timeout l1 l2 t1 a1 v1 l3 l4 t2 a2 v2 zero full rest hi hgo hidle hgo' hidle'
  refine ⟨_, _, calibrateSucceeds s timeout l1 l2 t1 a1 v1 l3 l4 t2 a2 v2 zero full rest hi hgo hidle hgo' hidle',
    List.append_assoc _ _ _, ?_, ?_⟩
  · simp [isBusIn, Nat.add_assoc]
  · simp [isNow, Nat.add_assoc]

/-- Settles O37: the zero-scale phase up to its last read, and the sample that expires. -/
theorem calibrateTimesOutInZeroPhase : Obligations.CalibrateTimesOutInZeroPhase := by
  intro s timeout l1 l2 t1 a1 v1 t zero rest p limit hi hgo hidle ht
  rw [exec_calibrate_polls_zero hi hgo, settle_pollRead_expired (by exact hidle) (by exact ht)]
  simp [ended, polled_zero_limited, p, limit]

/-- Settles O38: the full-scale phase compares with its own entry sample, which `polled` puts in `poll_start`. -/
theorem calibrateTimesOutInFullPhase : Obligations.CalibrateTimesOutInFullPhase := by
  intro s timeout l1 l2 t1 a1 v1 l3 l4 t2 a2 v2 t zero full rest p limit hi hgo hidle hgo' hidle' ht
  rw [exec_calibrate_polls_full hi hgo hidle hgo', settle_pollRead_expired (by exact hidle') (by exact ht)]
  simp [ended, polled_full_zeroScaled, p, limit]

/-- Settles O39: the failed request ends the command where it starts, the failed read after the iterations. -/
theorem calibrateStopsAtBusError : Obligations.CalibrateStopsAtBusError := by
  intro s timeout l1 l2 t1 a1 zero rest p limit request
  refine ⟨fun hi => ?_, fun hi => ?_, fun hi hgo => ?_, fun hi hgo => ?_⟩
  · rw [exec_calibrate hi, settle_requestCal_addr_err]
    rfl
  · rw [exec_calibrate hi, settle_requestCal_data_err]
    rfl
  · rw [exec_calibrate_polls_zero hi hgo, settle_pollRead_addr_err]
    simp [ended, polled_zero_limited, p, limit, request]
  · rw [exec_calibrate_polls_zero hi hgo, settle_pollRead_data_err]
    simp [ended, polled_zero_limited, p, limit, request]

/-- Settles O40: the same four ends, from the state the zero-scale phase leaves. -/
theorem calibrateStopsAtBusErrorInFullPhase : Obligations.CalibrateStopsAtBusErrorInFullPhase := by
  intro s timeout l1 l2 t1 a1 v1 l3 l4 t2 a2 zero full rest tail p limit before request hi hgo hidle
  refine ⟨fun htail => ?_, fun htail => ?_, fun htail hgo' => ?_, fun htail hgo' => ?_⟩
  · rw [exec_calibrate_requests_full hi hgo hidle, htail, settle_requestCal_addr_err]
    simp [ended, requestByte, calCode, zeroScaled_eq, p, limit, before, request]
  · rw [exec_calibrate_requests_full hi hgo hidle, htail, settle_requestCal_data_err]
    simp [ended, requestByte, calCode, zeroScaled_eq, p, limit, before, request]
  · rw [exec_calibrate_polls_full (htail ▸ hi) hgo hidle hgo', settle_pollRead_addr_err]
    simp [ended, polled_full_zeroScaled, p, limit, before, request]
  · rw [exec_calibrate_polls_full (htail ▸ hi) hgo hidle hgo', settle_pollRead_data_err]
    simp [ended, polled_full_zeroScaled, p, limit, before, request]

/-- Settles O41: with the limit 0 every sample expires, so these are runs of O35, O37 and O38 without iterations. -/
theorem zeroLimitReadsOnce : Obligations.ZeroLimitReadsOnce := by
  intro s timeout l1 l2 t1 a1 v1 l3 l4 t2 a2 v2 t rest hzero p zero full
  have hlimit : effectiveLimit s.params timeout = 0#32 := effectiveLimit_eq_zero hzero
  have hexpired : ∀ start, expiredAt start (effectiveLimit s.params timeout) t := fun start => hlimit ▸ expiredAt_zero start t
  have hnone : ∀ start, roundsGoOn s.params start (effectiveLimit s.params timeout) [] := fun _ _ hr => nomatch hr
  refine ⟨fun hi hidle => ?_, fun hi hidle hidle' => ?_, fun hi hidle hidle' => ?_, ?_, ?_⟩
  · rw [calibrateTimesOutInZeroPhase s timeout l1 l2 t1 a1 v1 t [] rest hi (hnone _) hidle (hexpired _)]
    simp [hlimit, zero, p]
  · rw [calibrateTimesOutInFullPhase s timeout l1 l2 t1 a1 v1 l3 l4 t2 a2 v2 t [] [] rest hi (hnone _) hidle (hnone _) hidle'
      (hexpired _)]
    simp [hlimit, zero, full, p]
  · rw [calibrateSucceeds s timeout l1 l2 t1 a1 v1 l3 l4 t2 a2 v2 [] [] rest hi (hnone _) hidle (hnone _) hidle']
    simp [hlimit, zero, full, p]
  · simp [zero]
  · simp [full]

/-- Settles O42: as a number the limit is the smaller one (`toNat_minU32`), and each corner is a corner of `min`. -/
theorem pollLimitCorners : Obligations.PollLimitCorners := by
  intro timeout hard
  have hlt := hard.isLt
  refine ⟨toNat_minU32 timeout hard, ?_, ?_, ?_, fun h => ?_⟩
  all_goals
    apply BitVec.eq_of_toNat_eq
    rw [toNat_minU32]
  · exact Nat.zero_min _
  · exact Nat.min_zero _
  · exact min_eq_right (Nat.le_of_lt_succ hlt)
  · exact min_eq_left h.le

/-- Settles O43: `pollExpired_iff` is the comparator on unsigned numbers; the wrap example is evaluated. -/
theorem pollComparator : Obligations.PollComparator :=
  ⟨pollExpired_iff, rfl, BitVec.sub_self⟩

/-- Settles O44: under the default table MD is the low three bits. -/
theorem idleSenseComparesModeCode : Obligations.IdleSenseComparesModeCode := by
  intro b
  have hmd : getField b ModeLayout.default.md = b &&& 0x07#8 := by
    simp [getField, fieldOnes, fieldWidth, ModeLayout.default]
  rw [idleSense, hmd, beq_iff_eq]

end Sys2Proof.Safety
end

section
/-! PROOF. How CALIBRATE can end (spec/43_calibration.md R124 to R127), whatever the environment does short of a reset. While it runs it
waits under its own rule with the effective limit in `poll_limit`; each of its three responses comes with data 0 and its own terminal
`cal_state`. -/

namespace Sys2Proof.Machine

open Sys2Proof.Safety

/-- The three ends of CALIBRATE: a status and the terminal state that goes with it (R22, R124 to R126). -/
inductive CalOutcome : RspStatus → CalState → Prop
  | done : CalOutcome .ok .done
  | timedOut : CalOutcome .timeout .timedOut
  | busFailed : CalOutcome .busError .busFailed

/-- CALIBRATE with the given limit: it waits under its own rule, or has responded with data 0 in one of its ends. -/
inductive Calibrating (limit : U32) : State → Prop
  | waits {u : State} (hlimit : u.pollLimit = limit) (hcal : runsCalibrate u = true) : Calibrating limit u
  | ends {t : State} (hlimit : t.pollLimit = limit) {st : RspStatus} {c : CalState} (h : CalOutcome st c) :
      Calibrating limit (respond st 0#32 (setCalState c t))

theorem refreshImage_calRegs (t : Transaction) (bs : List Byte) (s : State) : calRegs (refreshImage t bs s) = calRegs s :=
  (Keeps.refreshImage false t bs s).2 rfl

theorem refreshImage_pollLimit (t : Transaction) (bs : List Byte) (s : State) : (refreshImage t bs s).pollLimit = s.pollLimit :=
  (calRegs_eq_iff.mp (refreshImage_calRegs t bs s)).2.2

theorem isSome_point_of_runsCalibrate {s : State} (h : runsCalibrate s = true) : s.point.isSome = true := by
  cases hp : s.point with
  | none => simp [runsCalibrate, hp] at h
  | some p => rfl

namespace Calibrating

variable {limit : U32} {s : State}

theorem requestCal (h : s.pollLimit = limit) (phase : CalPhase) : Calibrating limit (requestCal phase s) := .waits h rfl

theorem pollRead (h : s.pollLimit = limit) (phase : CalPhase) : Calibrating limit (pollRead phase s) := .waits h rfl

theorem startOf (timeout : U32) (s : State) : Calibrating (effectiveLimit s.params timeout) (startOf (.calibrate timeout) s) := by
  rw [startOf_calibrate]
  exact .requestCal (s := limited timeout s) rfl .zero

theorem afterCalRequest (h : s.pollLimit = limit) (phase : CalPhase) (r : TxnResult) :
    Calibrating limit (afterCalRequest phase r s) := by
  cases r with
  | err => exact .ends h .busFailed
  | ok bs => exact .waits h rfl

theorem calPhaseDone (h : s.pollLimit = limit) (phase : CalPhase) : Calibrating limit (calPhaseDone phase s) := by
  cases phase with
  | zero => exact .requestCal h .full
  | full => exact .ends h .done

theorem afterCalPoll (h : s.pollLimit = limit) (phase : CalPhase) (r : TxnResult) : Calibrating limit (afterCalPoll phase r s) := by
  cases r with
  | err => exact .ends h .busFailed
  | ok bs =>
    simp only [Machine.afterCalPoll]
    split
    · exact .calPhaseDone h phase
    · exact .waits h rfl

/-- CALIBRATE's transactions return to CALIBRATE. -/
theorem returnTo {k : Cont} (h : s.pollLimit = limit) (hk : k.calibrates = true) (r : TxnResult) :
    Calibrating limit (returnTo k r s) := by
  cases k with
  | calRequest phase => exact .afterCalRequest h phase r
  | calPoll phase => exact .afterCalPoll h phase r
  | _ => cases hk

theorem answerAddrPhase {t : Transaction} {k : Cont} (h : s.pollLimit = limit) (hk : k.calibrates = true) (r : BusAnswer) :
    Calibrating limit (answerAddrPhase t k r s) := by
  have hend : (setCS false (storeImage .comm (transactionByte t true s) s)).pollLimit = limit := h
  cases r with
  | err => exact .returnTo hend hk .err
  | ok l =>
    simp only [Machine.answerAddrPhase]
    split
    · exact .returnTo hend hk (.ok [])
    · exact .waits h hk

theorem answerDataPhase {t : Transaction} {k : Cont} (h : s.pollLimit = limit) (hk : k.calibrates = true) (r : BusAnswer) :
    Calibrating limit (answerDataPhase t k r s) := by
  have hend : (setCS false s).pollLimit = limit := h
  cases r with
  | err => exact .returnTo hend hk .err
  | ok l =>
    simp only [Machine.answerDataPhase]
    split
    · exact .returnTo hend hk (.ok [])
    · exact .returnTo ((refreshImage_pollLimit t _ _).trans hend) hk _

theorem answerPollTime (h : s.pollLimit = limit) (phase : CalPhase) (t : U32) : Calibrating limit (answerPollTime phase t s) := by
  unfold Machine.answerPollTime
  split
  · exact .ends h .timedOut
  · split
    · exact .pollRead h phase
    · exact .waits h rfl

/-- Every event but a reset leads a waiting CALIBRATE on, or to one of its ends. -/
theorem reaction {u : State} {x : Input} (h : s.pollLimit = limit) (hcal : runsCalibrate s = true) (hr : Reaction s x u)
    (hx : x ≠ .reset) : Calibrating limit u := by
  cases hr with
  | ignored => exact .waits h hcal
  | taken => exact .waits h hcal
  | reset => exact absurd rfl hx
  | addrPhase hp r => exact .answerAddrPhase h ((runsCalibrate_of_point hp).symm.trans hcal) r
  | dataPhase hp r => exact .answerDataPhase h ((runsCalibrate_of_point hp).symm.trans hcal) r
  | pollStart hp t => exact .pollRead (s := { s with pollStart := t }) h _
  | pollTime hp t => exact .answerPollTime h _ t
  | pollDelay hp => exact .pollRead h _

theorem withInputs (h : Calibrating limit s) (xs : List Input) : Calibrating limit (withInputs xs s) := by
  cases h with
  | waits h hcal => exact .waits h hcal
  | ends h o => exact .ends (t := Machine.withInputs xs _) h o

theorem settle {xs : List Input} (h : Calibrating limit s) (hxs : noReset xs) : Calibrating limit (settle xs s) := by
  induction xs generalizing s with
  | nil => exact h.withInputs []
  | cons x xs ih =>
    obtain ⟨hx, hrest⟩ : Input.reset ≠ x ∧ Input.reset ∉ xs := List.ne_and_not_mem_of_not_mem_cons hxs
    cases h with
    | waits hlimit hcal =>
      rw [settle_running (isSome_point_of_runsCalibrate hcal)]
      exact ih (.reaction hlimit hcal (reaction_react x s) hx.symm) hrest
    | ends hlimit o =>
      rw [settle_ended rfl]
      exact (Calibrating.ends hlimit o).withInputs (x :: xs)

theorem pollLimit (h : Calibrating limit s) : s.pollLimit = limit := by
  cases h with
  | waits h _ => exact h
  | ends h _ => exact h

/-- Once it has responded, CALIBRATE is in one of its ends. -/
theorem outcome (h : Calibrating limit s) (hp : s.point = none) :
    s.rspValid = true ∧ s.rspData = 0#32 ∧ CalOutcome s.rspStatus s.calState := by
  cases h with
  | waits _ hcal => simp [runsCalibrate, hp] at hcal
  | ends _ o => exact ⟨rfl, rfl, o⟩

end Calibrating

theorem calOutcome_iff {st : RspStatus} {c : CalState} :
    CalOutcome st c ↔
      (st = .ok ∧ c = .done) ∨ (st = .timeout ∧ c = .timedOut) ∨ (st = .busError ∧ c = .busFailed) := by
  constructor
  · rintro (_ | _ | _)
    · exact .inl ⟨rfl, rfl⟩
    · exact .inr (.inl ⟨rfl, rfl⟩)
    · exact .inr (.inr ⟨rfl, rfl⟩)
  · rintro (⟨rfl, rfl⟩ | ⟨rfl, rfl⟩ | ⟨rfl, rfl⟩)
    · exact .done
    · exact .timedOut
    · exact .busFailed

end Sys2Proof.Machine

namespace Sys2Proof.Safety

open Sys2Proof.Machine

/-- Settles O46: CALIBRATE starts with its effective limit, and no event but a reset leads it anywhere but to its own points and ends. -/
theorem calibrateEndsConsistently : Obligations.CalibrateEndsConsistently := by
  intro s u timeout hs hexec
  rw [exec_eq_settle] at hexec
  cases hexec
  have hcal := (Calibrating.startOf timeout s).settle hs
  refine ⟨hcal.pollLimit, fun hp => ?_⟩
  obtain ⟨-, hdata, houtcome⟩ := hcal.outcome hp
  exact ⟨hdata, calOutcome_iff.mp houtcome⟩

end Sys2Proof.Safety
end

section
/-! PROOF. CALIBRATE on a bus that answers everything and a clock that advances one millisecond a round (spec/43_calibration.md R128). After a
phase's request its `j`-th poll round samples `j` milliseconds after the entry, so the round `j = poll_limit` ends the phase at the latest;
what a round holds beyond the awaited answers is dropped (log 4). -/

namespace Sys2Proof.Machine

open Sys2Proof.Safety

/-! ### The clock and its rounds -/

/-- The rounds of `clockedInputs` from the `i`-th on. -/
def clockedFrom (t0 : U32) (i : Nat) (answers : List (U32 × U32)) : List Input :=
  (answers.zipIdx i).flatMap fun a =>
    [.bus (.ok a.1.1), .bus (.ok a.1.2), .time (t0 + BitVec.ofNat 32 a.2), .delayDone]

theorem clockedInputs_eq (t0 : U32) (answers : List (U32 × U32)) : clockedInputs t0 answers = clockedFrom t0 0 answers := rfl

theorem clockedFrom_cons (t0 : U32) (i : Nat) (a : U32 × U32) (answers : List (U32 × U32)) :
    clockedFrom t0 i (a :: answers) =
      readAnswers a.1 a.2 ++ .time (t0 + BitVec.ofNat 32 i) :: .delayDone :: clockedFrom t0 (i + 1) answers := rfl

/-- The sample `j` rounds after the entry sample has elapsed by `j`, across a wrap of the clock too. -/
theorem expiredAt_clock (t0 limit : U32) (m : Nat) {j : Nat} (hj : j < 2 ^ 32) :
    expiredAt (t0 + BitVec.ofNat 32 m) limit (t0 + BitVec.ofNat 32 (m + j)) ↔ limit.toNat ≤ j := by
  have helapsed : ((t0 + BitVec.ofNat 32 (m + j)).toNat + 2 ^ 32 - (t0 + BitVec.ofNat 32 m).toNat) % 2 ^ 32 = j := by
    have ht0 := t0.isLt
    simp only [BitVec.toNat_add, BitVec.toNat_ofNat]
    omega
  rw [expiredAt, helapsed]

/-! ### What one round does -/

/-- A request's round leads to the first read; the end of a delay is dropped. -/
theorem settle_requestCal_round (phase : CalPhase) (s : State) (a v t : U32) (xs : List Input) :
    settle (readAnswers a v ++ .time t :: .delayDone :: xs) (requestCal phase s) =
      settle xs (pollRead phase (polled phase t [] s)) := by
  simp only [readAnswers, List.cons_append, List.nil_append]
  rw [settle_requestCal_ok, settle_running rfl]
  rfl

/-- A round that goes on leads to the next read; where POLL_DELAY_MS is 0 the end of a delay is dropped. -/
theorem settle_pollRead_clocked {s : State} {v t : U32} (hidle : notIdle s.params v) (ht : ¬ expiredAt s.pollStart s.pollLimit t)
    (phase : CalPhase) (a : U32) (xs : List Input) :
    settle (readAnswers a v ++ .time t :: .delayDone :: xs) (pollRead phase s) = settle xs (pollRead phase (iterated v s)) := by
  have hround := settle_pollRead_round (r := ⟨a, v, t⟩) hidle ht phase
  by_cases hdelay : s.params.pollDelayMs = 0#32
  · refine Eq.trans ?_ ((hround (.delayDone :: xs)).trans ?_)
    · simp [roundInputs, hdelay]
    · rw [settle_running rfl]
      rfl
  · refine Eq.trans ?_ (hround xs)
    simp [roundInputs, hdelay]

/-! ### The rounds of a phase -/

/-- The command has responded, with OK or TIMEOUT. -/
def EndsInTime (s : State) : Prop := s.point = none ∧ s.rspValid = true ∧ (s.rspStatus = .ok ∨ s.rspStatus = .timeout)

/-- What follows the idle read of a phase ends within `k` rounds; the rest of the idle round is dropped. -/
def DoneEndsInTime (t0 limit : U32) (phase : CalPhase) (k : Nat) : Prop :=
  ∀ (i : Nat) (t : U32) (answers : List (U32 × U32)) (s : State), s.pollLimit = limit → k ≤ answers.length →
    EndsInTime (settle (.time t :: .delayDone :: clockedFrom t0 i answers) (calPhaseDone phase s))

/-- The read whose sample will have elapsed by `j`: at most `limit + 1 - j` rounds later the phase is over. -/
theorem pollRead_endsInTime {t0 limit : U32} {phase : CalPhase} {k : Nat} (hdone : DoneEndsInTime t0 limit phase k) {m j : Nat}
    {s : State} {answers : List (U32 × U32)} (hlimit : s.pollLimit = limit) (hstart : s.pollStart = t0 + BitVec.ofNat 32 m)
    (hj : j ≤ max limit.toNat 1) (hlen : k + (limit.toNat + 2 - j) ≤ answers.length) :
    EndsInTime (settle (clockedFrom t0 (m + j) answers) (pollRead phase s)) := by
  have hbound := limit.isLt
  induction answers generalizing j s with
  | nil =>
    rw [List.length_nil] at hlen
    omega
  | cons a answers ih =>
    rw [List.length_cons] at hlen
    have hclock := expiredAt_clock t0 limit m (j := j) (by omega)
    rw [← hstart, ← hlimit] at hclock
    rw [clockedFrom_cons]
    by_cases hidle : notIdle s.params a.2
    · by_cases hexpired : expiredAt s.pollStart s.pollLimit (t0 + BitVec.ofNat 32 (m + j))
      · rw [settle_pollRead_expired hidle hexpired]
        exact ⟨rfl, rfl, .inr rfl⟩
      · have hlt : ¬ limit.toNat ≤ j := fun h => hexpired (hclock.mpr (hlimit ▸ h))
        rw [settle_pollRead_clocked hidle hexpired]
        exact ih (s := iterated a.2 s) (j := j + 1) hlimit hstart (by omega) (by omega)
    · rw [settle_pollRead_ok, afterCalPoll_idle (by exact not_not.mp hidle)]
      exact hdone _ _ _ _ hlimit (by omega)

/-- A phase is over within `limit + 2` rounds: its request's, and those of its reads. -/
theorem requestCal_endsInTime {t0 limit : U32} {phase : CalPhase} {k : Nat} (hdone : DoneEndsInTime t0 limit phase k) {i : Nat}
    {s : State} {answers : List (U32 × U32)} (hlimit : s.pollLimit = limit) (hlen : k + (limit.toNat + 2) ≤ answers.length) :
    EndsInTime (settle (clockedFrom t0 i answers) (requestCal phase s)) := by
  cases answers with
  | nil =>
    rw [List.length_nil] at hlen
    omega
  | cons a answers =>
    rw [List.length_cons] at hlen
    rw [clockedFrom_cons, settle_requestCal_round]
    exact pollRead_endsInTime hdone (s := polled phase _ [] s) hlimit rfl (le_max_right _ _) (by omega)

theorem doneEndsInTime_full (t0 limit : U32) : DoneEndsInTime t0 limit .full 0 := by
  intro i t answers s hlimit hlen
  rw [calPhaseDone, settle_ended rfl]
  exact ⟨rfl, rfl, .inl rfl⟩

theorem doneEndsInTime_zero (t0 limit : U32) : DoneEndsInTime t0 limit .zero (limit.toNat + 2) := by
  intro i t answers s hlimit hlen
  rw [calPhaseDone, settle_running rfl, settle_running rfl]
  exact requestCal_endsInTime (doneEndsInTime_full t0 limit) hlimit (by omega)

end Sys2Proof.Machine

namespace Sys2Proof.Safety

open Sys2Proof.Machine

/-- Settles O45: each phase is over within `poll_limit + 2` rounds. -/
theorem calibrateEndsOnAdvancingClock : Obligations.CalibrateEndsOnAdvancingClock := by
  intro s timeout t0 answers hlen hi
  refine ⟨_, exec_calibrate hi, ?_⟩
  exact requestCal_endsInTime (doneEndsInTime_zero t0 (effectiveLimit s.params timeout)) rfl (by omega)

end Sys2Proof.Safety
end

section
/-! PROOF. CALIBRATE ends if every request is answered and the samples reach the limit (spec/43_calibration.md R128). `EndsWithin` counts the
answers backwards from the response: an error or an expired sample ends the command, an iteration takes at most four answers and draws one
sample, and an expired sample is among those that remain. `Calibrating` says in which ways it can have ended. -/

namespace Sys2Proof.Machine

open Sys2Proof.Safety

/-! ### A command served with the answers it awaits -/

theorem awaitedAnswer_ne_reset (d : Draws) (b t : Nat) (p : Point) : awaitedAnswer d b t p ≠ .reset := by
  cases p with
  | _ => exact nofun

section
variable {d : Draws} {k b t : Nat} {s : State}

theorem served_ended (h : s.point = none) (k b t : Nat) : served d k b t s = some s := by
  cases k with
  | zero => rfl
  | succ k =>
    unfold served
    split
    · rfl
    · next hp => cases h.symm.trans hp

/-- One step of a running command, on the one answer it awaits. -/
theorem served_succ {p : Point} (hok : paramsOk s.params = true) (hp : s.point = some p) (k b t : Nat) :
    served d (k + 1) b t s =
      served d k (busDrawn b p) (timeDrawn t p) (withInputs [] (react (awaitedAnswer d b t p) s)) := by
  have hrun : s.point.isSome = true := by simp [hp]
  have hstep : step { s with inputs := [awaitedAnswer d b t p] } = .next (withInputs [] (react (awaitedAnswer d b t p) s)) := by
    refine (step_running (s := withInputs [awaitedAnswer d b t p] s) hok hrun).trans ?_
    rw [settle_withInputs]
    exact congrArg _ (settle_running hrun _ _)
  conv_lhs => unfold served
  split
  · next hnone => cases hp.symm.trans hnone
  · next p' hp' =>
    cases hp.symm.trans hp'
    rw [hstep]

/-- The answer a running command awaits leaves the parameters. -/
theorem paramsOk_react_awaited {p : Point} (hok : paramsOk s.params = true) (hp : s.point = some p) (b t : Nat) :
    paramsOk (react (awaitedAnswer d b t p) s).params = true := by
  rwa [(Advances.react (awaitedAnswer_ne_reset d b t p) (by simp [hp])).params]

/-- Further answers do not reach a command that has ended. -/
theorem served_of_le {v : State} {k' : Nat} (hok : paramsOk s.params = true) (h : served d k b t s = some v) (hend : v.point = none)
    (hk : k ≤ k') : served d k' b t s = some v := by
  induction k generalizing k' b t s with
  | zero =>
    cases h
    exact served_ended hend k' b t
  | succ k ih =>
    cases k' with
    | zero => cases hk
    | succ k' =>
      cases hp : s.point with
      | none =>
        rw [served_ended hp] at h ⊢
        exact h
      | some p =>
        rw [served_succ hok hp] at h ⊢
        exact ih (by exact paramsOk_react_awaited hok hp b t) h (Nat.le_of_succ_le_succ hk)

end

/-- Under admitted tables, the command has ended after at most `k` answers, if `b` bus answers and `t` time samples have been drawn. -/
def EndsWithin (d : Draws) (k b t : Nat) (s : State) : Prop :=
  paramsOk s.params = true → ∃ v, served d k b t s = some v ∧ v.point = none

namespace EndsWithin

variable {d : Draws} {k b t : Nat} {s : State}

theorem of_ended (h : s.point = none) (k b t : Nat) : EndsWithin d k b t s := fun _ => ⟨s, served_ended h k b t, h⟩

theorem mono {k' : Nat} (h : EndsWithin d k b t s) (hk : k ≤ k') : EndsWithin d k' b t s := by
  intro hok
  obtain ⟨v, hv, hend⟩ := h hok
  exact ⟨v, served_of_le hok hv hend hk, hend⟩

theorem withInputs (h : EndsWithin d k b t s) (xs : List Input) : EndsWithin d k b t (withInputs xs s) := by
  cases hp : s.point with
  | none => exact .of_ended (s := Machine.withInputs xs s) hp k b t
  | some p =>
    intro hok
    change paramsOk s.params = true at hok
    obtain ⟨v, hv, hend⟩ := h hok
    cases k with
    | zero =>
      cases hv
      cases hp.symm.trans hend
    | succ k =>
      refine ⟨v, ?_, hend⟩
      rw [served_succ (by exact hok) (by exact hp), react_withInputs]
      rwa [served_succ hok hp] at hv

/-- One answer more, where the awaited answer leads to a state that ends. -/
theorem step {p : Point} (hp : s.point = some p)
    (h : EndsWithin d k (busDrawn b p) (timeDrawn t p) (react (awaitedAnswer d b t p) s)) : EndsWithin d (k + 1) b t s := by
  intro hok
  rw [served_succ hok hp]
  exact h.withInputs [] (paramsOk_react_awaited hok hp b t)

/-! ### CALIBRATE's transactions and poll -/

/-- A failed transaction ends CALIBRATE (R126). -/
theorem returnTo_err {c : Cont} (hc : c.calibrates = true) (k b t : Nat) (s : State) : EndsWithin d k b t (returnTo c .err s) := by
  cases c with
  | calRequest phase => exact .of_ended rfl k b t
  | calPoll phase => exact .of_ended rfl k b t
  | _ => cases hc

/-- A transaction takes two answers, or fails. -/
theorem beginTransact {x : Transaction} {c : Cont} (hc : c.calibrates = true) (hlen : x.len ≠ 0)
    (hok : ∀ bs u, calRegs u = calRegs s → EndsWithin d k (b + 2) t (returnTo c (.ok bs) u)) :
    EndsWithin d (k + 2) b t (beginTransact x c s) := by
  refine .step (p := .addrPhase x c) rfl ?_
  rw [awaitedAnswer, react_bus_addrPhase rfl]
  cases d.bus b with
  | err => exact .returnTo_err hc _ _ _ _
  | ok l =>
    simp only [answerAddrPhase, if_neg hlen]
    refine .step (p := .dataPhase x c) rfl ?_
    rw [awaitedAnswer, react_bus_dataPhase rfl]
    simp only [busDrawn, timeDrawn]
    cases d.bus (b + 1) with
    | err => exact .returnTo_err hc _ _ _ _
    | ok l' =>
      simp only [answerDataPhase]
      split
      · exact hok _ _ rfl
      · exact hok _ _ (refreshImage_calRegs x _ _)

/-- A read with an expired sample among the next `n`: at most `n` iterations of four answers, then the idle read or the end. -/
theorem pollRead {phase : CalPhase} {start limit : U32} {T n : Nat}
    (hdone : ∀ b t u, t ≤ T → u.pollLimit = limit → EndsWithin d k b t (calPhaseDone phase u)) (hT : t + n ≤ T + 1)
    (hexpires : ∃ j, t ≤ j ∧ j < t + n ∧ expiredAt start limit (d.time j)) (hstart : s.pollStart = start)
    (hlimit : s.pollLimit = limit) :
    EndsWithin d (4 * n + k) b t (pollRead phase s) := by
  obtain ⟨j, htj, hjn, hj⟩ := hexpires
  induction n generalizing b t s with
  | zero => omega
  | succ n ih =>
    refine EndsWithin.mono (k := 4 * n + k + 2 + 2) ?_ (by omega)
    refine .beginTransact rfl one_ne_zero fun bs u hregs => ?_
    obtain ⟨-, hstart', hlimit'⟩ := calRegs_eq_iff.mp hregs
    replace hstart := hstart'.trans hstart
    replace hlimit := hlimit'.trans hlimit
    simp only [returnTo, afterCalPoll]
    split
    · exact (hdone _ _ _ (by omega) hlimit).mono (by omega)
    · refine .step (p := .pollTime phase) rfl ?_
      rw [awaitedAnswer, react_time_pollTime (p := phase) rfl]
      by_cases hexpired : expiredAt start limit (d.time t)
      · rw [answerPollTime_expired (by subst hstart hlimit; exact hexpired)]
        exact .of_ended rfl _ _ _
      · have hlater : t ≠ j := fun h => hexpired (h ▸ hj)
        have hnext : ∀ v, v.pollStart = start → v.pollLimit = limit →
            EndsWithin d (4 * n + k) (b + 2) (t + 1) (Machine.pollRead phase v) :=
          fun v hstart hlimit => ih (t := t + 1) (by omega) hstart hlimit (by omega) (by omega)
        rw [answerPollTime_goesOn (by subst hstart hlimit; exact hexpired)]
        split
        · exact (hnext _ (by simpa using hstart) (by simpa using hlimit)).mono (Nat.le_succ _)
        · refine .step (p := .pollDelay phase) rfl ?_
          rw [awaitedAnswer, react_delayDone_pollDelay (p := phase) rfl]
          exact hnext _ (by simpa using hstart) (by simpa using hlimit)

/-- A phase with an expired sample among the `n` after its entry sample: three answers more than its reads. -/
theorem requestCal {phase : CalPhase} {limit : U32} {T n : Nat}
    (hdone : ∀ b t u, t ≤ T → u.pollLimit = limit → EndsWithin d k b t (calPhaseDone phase u)) (hT : t + n ≤ T)
    (hexpires : ∃ j, t < j ∧ j ≤ t + n ∧ expiredAt (d.time t) limit (d.time j)) (hlimit : s.pollLimit = limit) :
    EndsWithin d (4 * n + k + 3) b t (requestCal phase s) := by
  obtain ⟨j, htj, hjn, hj⟩ := hexpires
  refine .beginTransact (k := 4 * n + k + 1) rfl one_ne_zero fun bs u hregs => ?_
  obtain ⟨-, -, hlimit'⟩ := calRegs_eq_iff.mp hregs
  refine .step (p := .pollStart phase) rfl ?_
  rw [awaitedAnswer, react_time_pollStart (p := phase) rfl]
  exact .pollRead (t := t + 1) (n := n) hdone (by omega) ⟨j, htj, by omega, hj⟩ rfl (hlimit'.trans hlimit)

/-- Both phases: the full-scale phase is entered at a sample up to the zero-scale phase's bound `T`. -/
theorem calibrate {limit : U32} {T n : Nat} (hzero : ∃ j, 0 < j ∧ j ≤ T ∧ expiredAt (d.time 0) limit (d.time j))
    (hfull : ∀ m ≤ T, ∃ j, m < j ∧ j ≤ m + n ∧ expiredAt (d.time m) limit (d.time j)) (hlimit : s.pollLimit = limit) :
    EndsWithin d (4 * T + 4 * n + 6) 0 0 (Machine.requestCal .zero s) := by
  have hlast : ∀ b t u, t ≤ T + n → u.pollLimit = limit → EndsWithin d 0 b t (calPhaseDone .full u) :=
    fun b t u _ _ => .of_ended rfl 0 b t
  have hnext : ∀ b t u, t ≤ T → u.pollLimit = limit → EndsWithin d (4 * n + 0 + 3) b t (calPhaseDone .zero u) :=
    fun b t u ht hu => .requestCal hlast (by omega) (hfull t ht) hu
  obtain ⟨j, hj0, hjT, hj⟩ := hzero
  exact (requestCal (n := T) hnext (by omega) ⟨j, hj0, by omega, hj⟩ hlimit).mono (by omega)

end EndsWithin

/-! ### The ends -/

theorem noReset_awaited (d : Draws) (b t : Nat) (p : Point) : noReset [awaitedAnswer d b t p] := by
  simpa [noReset] using (awaitedAnswer_ne_reset d b t p).symm

/-- CALIBRATE stays in its own points and ends while it is served. -/
theorem Calibrating.served {limit : U32} {d : Draws} {k b t : Nat} {s v : State} (h : Calibrating limit s)
    (hok : paramsOk s.params = true) (hv : served d k b t s = some v) : Calibrating limit v := by
  induction k generalizing b t s with
  | zero =>
    cases hv
    exact h
  | succ k ih =>
    cases hp : s.point with
    | none =>
      rw [served_ended hp] at hv
      cases hv
      exact h
    | some p =>
      have hmoved := h.settle (noReset_awaited d b t p)
      rw [settle_running (by simp [hp])] at hmoved
      rw [served_succ hok hp] at hv
      exact ih hmoved (paramsOk_react_awaited hok hp b t) hv

end Sys2Proof.Machine

namespace Sys2Proof.Safety

open Sys2Proof.Machine

/-- Settles O55: `EndsWithin.calibrate` bounds the answers, with `n` for both phases, or, where only some expired sample is promised, with
the zero-scale phase's own bound and the largest distance needed by an entry sample up to it. -/
theorem calibrateEndsWhenSamplesExpire : Obligations.CalibrateEndsWhenSamplesExpire := by
  intro s timeout d hok hi limit ends
  have hends : ∀ k, EndsWithin d k 0 0 (requestCal .zero (limited timeout s)) → ends k := by
    intro k h
    obtain ⟨v, hv, hend⟩ := h.withInputs [] hok
    have hstart : Calibrating limit (requestCal .zero (limited timeout s)) := .requestCal (s := limited timeout s) rfl .zero
    have hcal : Calibrating limit v := (hstart.withInputs []).served hok hv
    obtain ⟨hvalid, -, houtcome⟩ := hcal.outcome hend
    refine ⟨_, v, exec_calibrate hi, hv, hend, hvalid, ?_⟩
    obtain ⟨h, -⟩ | ⟨h, -⟩ | ⟨h, -⟩ := calOutcome_iff.mp houtcome
    · exact .inl h
    · exact .inr (.inl h)
    · exact .inr (.inr h)
  refine ⟨fun hsome => ?_, fun n hwithin => ?_⟩
  · choose j hlater hexpires using hsome
    refine ⟨_, hends _ (EndsWithin.calibrate (T := j 0) (n := (Finset.range (j 0 + 1)).sup j)
      ⟨j 0, hlater 0, le_rfl, hexpires 0⟩ (fun m hm => ⟨j m, hlater m, ?_, hexpires m⟩) rfl)⟩
    have hsup : j m ≤ (Finset.range (j 0 + 1)).sup j := Finset.le_sup (Finset.mem_range.mpr (Nat.lt_succ_of_le hm))
    omega
  · refine hends _ ((EndsWithin.calibrate (T := n) (n := n) ?_ (fun m _ => hwithin m) rfl).mono (by omega))
    simpa using hwithin 0

end Sys2Proof.Safety
end

section
/-! PROOF. READ_CONV and PROBE (spec/44_acquisition.md R132 to R136): the whole state in which each ends. Each is one read transaction
that refreshes no image, and its rule responds as soon as the transaction returns; what is left to say is the bytes it responds
with, as numbers. -/

namespace Sys2Proof.Machine

open Sys2Proof.Safety

/-! ### A command made of one read -/

section
variable {i : Instr} {s : State} {a : RegAddr} {n : Nat} {k : Cont} (hstart : startOf i s = regRead a n k s)
include hstart

/-- A read that succeeds and refreshes no image ends with the response its rule makes of the bytes received. -/
theorem exec_read_ok {l v : U32} {rest : List Input} {st : RspStatus} {d : U32} (hn : n ≠ 0)
    (himages : Transaction.leavesImages ⟨a, .read, n, []⟩)
    (hk : ∀ u, u.params = s.params → returnTo k (.ok (byteLanes n v)) u = respond st d u)
    (hi : s.inputs = .bus (.ok l) :: .bus (.ok v) :: rest) :
    exec i s = .next
      { ended s (readFrame s.params a n) st d rest with
        imgComm := commByte s.params.commLayout a true true } := by
  rw [exec_eq_settle, hstart, hi, regRead, settle_transact_read _ _ _ _ _ _ hn rfl, refreshImage_of_leavesImages himages rfl,
    hk (afterFrame _ _ s) rfl, settle_ended rfl]
  simp [respond_eq, afterFrame, ended, readFrame, addressRequest, transactionByte, directionBit, dataRequest]

/-- A read whose data phase fails has had its whole frame (R94). -/
theorem exec_read_data_err {l : U32} {rest : List Input} (hn : n ≠ 0) (hk : ∀ u, returnTo k .err u = respond .busError 0#32 u)
    (hi : s.inputs = .bus (.ok l) :: .bus .err :: rest) :
    exec i s = .next
      { ended s (readFrame s.params a n) .busError 0#32 rest with
        imgComm := commByte s.params.commLayout a true true } := by
  rw [exec_eq_settle, hstart, hi, regRead, settle_transact_data_err _ _ _ _ _ hn, hk, settle_ended rfl]
  simp [respond_eq, afterFrame, ended, readFrame, addressRequest, transactionByte, directionBit, dataRequest]

/-- A read whose address phase fails has no data phase (R102). -/
theorem exec_read_addr_err {rest : List Input} (hk : ∀ u, returnTo k .err u = respond .busError 0#32 u)
    (hi : s.inputs = .bus .err :: rest) :
    exec i s = .next
      { ended s (addressFrame s.params a true) .busError 0#32 rest with
        imgComm := commByte s.params.commLayout a true true } := by
  rw [exec_eq_settle, hstart, hi, regRead, settle_transact_addr_err, hk, settle_ended rfl]
  simp [respond_eq, ended, addressFrame, addressRequest, transactionByte, directionBit]

end

theorem startOf_readConv (s : State) : startOf .readConv s = regRead 4#4 2 .readConv s := rfl

theorem startOf_probe (s : State) : startOf .probe s = regRead 15#4 1 .probe s := rfl

/-! ### The conversion code (R133) -/

theorem toNat_byteLane (v : U32) (i : Nat) : (byteLane v i).toNat = v.toNat / 2 ^ (8 * i) % 256 := by
  rw [byteLane, BitVec.extractLsb'_toNat, Nat.shiftRight_eq_div_pow]

theorem toNat_conversionCode (b0 b1 : Byte) : (conversionCode b0 b1).toNat = b0.toNat * 256 + b1.toNat := by
  rw [conversionCode, BitVec.toNat_append, ← Nat.shiftLeft_add_eq_or_of_lt b1.isLt, Nat.shiftLeft_eq]

theorem setWidth_conversionCode_byteLane (v : U32) :
    (conversionCode (byteLane v 0) (byteLane v 1)).setWidth 32 =
      BitVec.ofNat 32 (v.toNat % 256 * 256 + v.toNat / 256 % 256) := by
  apply BitVec.eq_of_toNat_eq
  rw [BitVec.toNat_setWidth, BitVec.toNat_ofNat, toNat_conversionCode, toNat_byteLane, toNat_byteLane]
  simp

/-- Two bytes received: the first is the code's high byte. -/
theorem returnTo_readConv_ok (v : U32) (s : State) :
    returnTo .readConv (.ok (byteLanes 2 v)) s =
      respond .ok (BitVec.ofNat 32 (v.toNat % 256 * 256 + v.toNat / 256 % 256)) s := by
  rw [← setWidth_conversionCode_byteLane]
  rfl

/-! ### The presence status (R134) -/

theorem toNat_highNibble (b : Byte) : (highNibble b).toNat = b.toNat / 16 % 16 := by
  rw [highNibble, BitVec.extractLsb'_toNat, Nat.shiftRight_eq_div_pow]

theorem toNat_highNibble_setWidth (v : U32) : (highNibble (v.setWidth 8)).toNat = v.toNat / 16 % 16 := by
  rw [toNat_highNibble, BitVec.toNat_setWidth]
  omega

/-- The status is the high nibble's alone. -/
theorem presenceStatus_setWidth (deviceId : BitVec 4) (v : U32) :
    presenceStatus deviceId (v.setWidth 8) = if v.toNat / 16 % 16 = deviceId.toNat then .ok else .notPresent := by
  simp only [presenceStatus, ← BitVec.toNat_inj, toNat_highNibble_setWidth]

/-- One byte received: its high nibble decides the status, and the whole byte is returned. -/
theorem returnTo_probe_ok (v : U32) (s : State) :
    returnTo .probe (.ok (byteLanes 1 v)) s =
      respond (if v.toNat / 16 % 16 = s.params.deviceId.toNat then .ok else .notPresent) (v &&& 0xFF#32) s := by
  rw [byteLanes_one, ← presenceStatus_setWidth, ← setWidth_byte_eq_and]
  rfl

end Sys2Proof.Machine

namespace Sys2Proof.Safety

open Sys2Proof.Machine

/-- Settles O33: READ_CONV is a two-byte read, which refreshes no image; `returnTo_readConv_ok` is its code. -/
theorem readConvOutcome : Obligations.ReadConvOutcome := by
  intro s
  refine ⟨fun l v rest hi => ?_, fun l rest hi => ?_, fun rest hi => ?_⟩
  · exact exec_read_ok (startOf_readConv s) two_ne_zero (fun _ _ => rfl) (fun u _ => returnTo_readConv_ok v u) hi
  · exact exec_read_data_err (startOf_readConv s) two_ne_zero (fun _ => rfl) hi
  · exact exec_read_addr_err (startOf_readConv s) (fun _ => rfl) hi

/-- Settles O34: PROBE is a one-byte read of an address that backs no image; `returnTo_probe_ok` is its status and byte. -/
theorem probeOutcome : Obligations.ProbeOutcome := by
  intro s
  refine ⟨fun l v rest hi => ?_, fun l rest hi => ?_, fun rest hi => ?_⟩
  · exact exec_read_ok (startOf_probe s) one_ne_zero (fun _ _ => rfl) (fun u hu => hu ▸ returnTo_probe_ok v u) hi
  · exact exec_read_data_err (startOf_probe s) one_ne_zero (fun _ => rfl) hi
  · exact exec_read_addr_err (startOf_probe s) (fun _ => rfl) hi

end Sys2Proof.Safety
end

section
/-! PROOF. The block's exception mechanism (spec/60_exceptions.md). A failure is a status in the one response: which statuses a command
can report is read off the rule it waits under (`Cont.statuses`, R138). No step is fatal (R148), an illegal word responds at once (R139,
R140), and an event that the block does not react to may be left out (R156). -/

namespace Sys2Proof.Machine

open Sys2Proof.Safety

/-! ### Events at the wrong time (R156) -/

/-- Without a response pending there is nothing to take. -/
theorem takeResponse_of_notValid {s : State} (h : s.rspValid = false) : takeResponse s = s := by
  rw [takeResponse, ← h]

/-- An event to which a waiting command does not react makes no difference to its run. -/
theorem settle_append_ignored {s : State} {xs : List Input} {x : Input} (hwait : (settle xs s).point.isSome = true)
    (hx : react x (settle xs s) = settle xs s) (ys : List Input) : settle (xs ++ x :: ys) s = settle (xs ++ ys) s := by
  rw [settle_append xs _ hwait, settle_append xs _ hwait, settle_running hwait, hx]

/-- The step of a running command, with its events named. -/
theorem step_running_withInputs {s : State} (hok : paramsOk s.params = true) (hp : s.point.isSome = true) (xs : List Input) :
    step (withInputs xs s) = .next (settle xs s) := by
  rw [step_running (s := withInputs xs s) hok hp]
  exact congrArg _ (settle_withInputs xs xs s)

/-! ### The parameters along a step (R6, R161) -/

theorem Reaction.params {s u : State} {x : Input} (h : Reaction s x u) : u.params = s.params := by
  cases h with
  | ignored => rfl
  | taken => rfl
  | reset => rfl
  | addrPhase _ r => exact (Advances.answerAddrPhase _ _ r s).params
  | dataPhase _ r => exact (Advances.answerDataPhase _ _ r s).params
  | pollStart _ t => rfl
  | pollTime _ t => exact (Advances.answerPollTime _ t s).params
  | pollDelay _ => rfl

/-- A command answers a next state under the parameters it started with. -/
theorem exec_answers (i : Instr) (s : State) : ∃ t, exec i s = .next t ∧ t.params = s.params :=
  ⟨_, exec_eq_settle i s, (settle_params _ _).trans (Advances.startOf i s).params⟩

/-- An event taken where no command runs is answered with a next state under the same parameters. -/
theorem step_taking_answers {s : State} (hok : paramsOk s.params = true) (hp : s.point = none) {x : Input} {rest : List Input}
    (hi : s.inputs = x :: rest) : ∃ t, step s = .next t ∧ t.params = s.params := by
  rw [step_taking hok hp hi]
  rcases takeInput_cases x (withInputs rest s) with ⟨cw, -, -, htake⟩ | ⟨cw, -, -, htake⟩ | ⟨-, htake⟩
  · rw [htake]
    exact exec_answers (decode cw) (acceptCommand cw (withInputs rest s))
  · rw [htake]
    exact ⟨_, rfl, rfl⟩
  · rw [htake]
    exact ⟨_, rfl, (reaction_react x (withInputs rest s)).params⟩

/-! ### Illegal words (R139, R140) -/

theorem startOf_of_isIllegalRow {i : Instr} (h : isIllegalRow i = true) (s : State) : startOf i s = startIllegal s := by
  cases i with
  | illegalOp0 => rfl
  | illegalOpB => rfl
  | illegalOpCF low => rfl
  | illegalWriteRegLen57 bit9 => rfl
  | illegalWriteRegLen67 bit8 => rfl
  | illegalReadRegLen57 bit9 => rfl
  | illegalReadRegLen67 bit8 => rfl
  | _ => cases h

theorem exec_of_isIllegalRow {i : Instr} (h : isIllegalRow i = true) (s : State) : exec i s = .next (illegalEnded s) := by
  rw [exec_eq_settle, startOf_of_isIllegalRow h, settle_startIllegal]

/-! ### The statuses of a rule (R138) -/

/-- The statuses of a command whose one cause of failure is the bus (R142). -/
def busStatuses : List RspStatus := [.ok, .busError]

/-- The statuses of CALIBRATE, the only command that can time out (R143). -/
def calibrateStatuses : List RspStatus := [.ok, .busError, .timeout]

/-- The statuses with which the rule that goes on can end its command (R138): TIMEOUT is CALIBRATE's (R143), NOT_PRESENT is
PROBE's (R144), and no rule that goes on answers ILLEGAL (R145). -/
def Cont.statuses : Cont → List RspStatus
  | .rawWrite => busStatuses
  | .rawRead => busStatuses
  | .config => busStatuses
  | .init _ => busStatuses
  | .calRequest _ => calibrateStatuses
  | .calPoll _ => calibrateStatuses
  | .readConv => busStatuses
  | .probe => [.ok, .busError, .notPresent]

/-- The statuses of the command that waits at a point. -/
def Point.statuses : Point → List RspStatus
  | .addrPhase _ k => k.statuses
  | .dataPhase _ k => k.statuses
  | .pollStart _ => calibrateStatuses
  | .pollTime _ => calibrateStatuses
  | .pollDelay _ => calibrateStatuses

/-- A command with the given statuses: it waits under a rule that has just these, or has ended with one of them. -/
inductive Reports (sts : List RspStatus) (s : State) : Prop
  | waits {p : Point} (hp : s.point = some p) (hsts : p.statuses = sts) : Reports sts s
  | ends (hp : s.point = none) (hst : s.rspStatus ∈ sts) : Reports sts s

theorem statuses_of_calibrates {p : Point} (h : p.calibrates = true) : p.statuses = calibrateStatuses := by
  have hcont : ∀ k : Cont, k.calibrates = true → k.statuses = calibrateStatuses := by
    intro k hk
    cases k with
    | calRequest phase => rfl
    | calPoll phase => rfl
    | _ => cases hk
  cases p with
  | addrPhase t k => exact hcont k h
  | dataPhase t k => exact hcont k h
  | pollStart phase => rfl
  | pollTime phase => rfl
  | pollDelay phase => rfl

theorem presenceStatus_mem (deviceId : BitVec 4) (id : Byte) : presenceStatus deviceId id ∈ Cont.probe.statuses := by
  unfold presenceStatus
  split
  · decide
  · decide

namespace Reports

variable {sts : List RspStatus} {s : State}

theorem respond {st : RspStatus} (h : st ∈ sts) (d : U32) (s : State) : Reports sts (respond st d s) := .ends rfl h

theorem beginTransact (t : Transaction) (k : Cont) (s : State) : Reports k.statuses (beginTransact t k s) := .waits rfl rfl

theorem configWrite (a : RegAddr) (x : Image) (v : Byte) (k : Cont) (s : State) : Reports k.statuses (configWrite a x v k s) :=
  .waits rfl rfl

theorem startInitStage (stage : InitStage) (s : State) : Reports busStatuses (startInitStage stage s) := by
  rw [startInitStage_eq]
  exact .configWrite _ _ _ (.init stage) s

/-- The ends of CALIBRATE have its statuses (R124 to R126). -/
theorem of_calibrating {limit : U32} (h : Calibrating limit s) : Reports calibrateStatuses s := by
  cases h with
  | waits _ hcal =>
    obtain ⟨p, hp⟩ := Option.isSome_iff_exists.mp (isSome_point_of_runsCalibrate hcal)
    exact .waits hp (statuses_of_calibrates ((runsCalibrate_of_point hp).symm.trans hcal))
  | ends _ houtcome => cases houtcome <;> exact .respond (by decide) _ _

/-- A command that passes the length check waits in its transaction; an ILLEGAL row has ended. -/
theorem startOf {i : Instr} (hwf : i.wf = true) (s : State) : Reports (allowedStatuses i) (startOf i s) := by
  cases i with
  | init => exact .startInitStage .io _
  | writeReg a n arg =>
    obtain ⟨⟨-, hle⟩, -⟩ : (1 ≤ n.toNat ∧ n.toNat ≤ 4) ∧ _ := by simpa [Instr.wf] using hwf
    simp only [Machine.startOf, startWriteReg_of_le hle]
    exact .beginTransact _ .rawWrite s
  | readReg a n =>
    obtain ⟨⟨-, hle⟩, -⟩ : (1 ≤ n.toNat ∧ n.toNat ≤ 4) ∧ _ := by simpa [Instr.wf] using hwf
    simp only [Machine.startOf, startReadReg_of_le hle]
    exact .beginTransact _ .rawRead s
  | cfgMode md oscpd chcon refsel negbuf chop => exact .configWrite _ _ _ .config s
  | cfgChannel ch rn pol => exact .configWrite _ _ _ .config s
  | cfgFilter sf => exact .configWrite _ _ _ .config s
  | cfgIo p1dir p2dir => exact .configWrite _ _ _ .config s
  | calibrate timeout => exact .of_calibrating (.startOf timeout s)
  | readConv => exact .beginTransact _ .readConv s
  | probe => exact .beginTransact _ .probe s
  | selectW a => exact .beginTransact _ .rawWrite s
  | selectR a => exact .beginTransact _ .rawRead s
  | readStatus => exact .beginTransact _ .rawRead s
  | readMode => exact .beginTransact _ .rawRead s
  | readControl => exact .beginTransact _ .rawRead s
  | readId => exact .beginTransact _ .rawRead s
  | illegalOp0 => exact .respond (List.mem_singleton_self _) _ s
  | illegalOpB => exact .respond (List.mem_singleton_self _) _ s
  | illegalOpCF low => exact .respond (List.mem_singleton_self _) _ s
  | illegalWriteRegLen57 bit9 => exact .respond (List.mem_singleton_self _) _ s
  | illegalWriteRegLen67 bit8 => exact .respond (List.mem_singleton_self _) _ s
  | illegalReadRegLen57 bit9 => exact .respond (List.mem_singleton_self _) _ s
  | illegalReadRegLen67 bit8 => exact .respond (List.mem_singleton_self _) _ s

theorem respondResult (r : TxnResult) (s : State) : Reports busStatuses (respondResult r s) := by
  cases r with
  | ok bs => exact .respond (by decide) _ s
  | err => exact .respond (by decide) _ s

theorem afterInit (stage : InitStage) (r : TxnResult) (s : State) : Reports busStatuses (afterInit stage r s) := by
  cases r with
  | err => exact .respond (by decide) _ s
  | ok bs =>
    simp only [Machine.afterInit]
    split
    · exact .startInitStage _ s
    · exact .respond (by decide) _ s

/-- A rule whose transaction has returned goes on, or ends its command with a status of its own. -/
theorem returnTo (k : Cont) (r : TxnResult) (s : State) : Reports k.statuses (returnTo k r s) := by
  cases k with
  | rawWrite => exact .respondResult r s
  | rawRead => cases r <;> exact .respond (by decide) _ s
  | config => exact .respondResult r s
  | init stage => exact .afterInit stage r s
  | calRequest phase => exact .of_calibrating (.returnTo rfl rfl r)
  | calPoll phase => exact .of_calibrating (.returnTo rfl rfl r)
  | readConv => cases r <;> exact .respond (by decide) _ s
  | probe =>
    cases r with
    | ok bs => exact .respond (presenceStatus_mem _ _) _ s
    | err => exact .respond (by decide) _ s

theorem answerAddrPhase (t : Transaction) (k : Cont) (r : BusAnswer) (s : State) :
    Reports k.statuses (answerAddrPhase t k r s) := by
  cases r with
  | err => exact .returnTo k .err _
  | ok l =>
    simp only [Machine.answerAddrPhase]
    split
    · exact .returnTo k (.ok []) _
    · exact .waits rfl rfl

theorem answerDataPhase (t : Transaction) (k : Cont) (r : BusAnswer) (s : State) :
    Reports k.statuses (answerDataPhase t k r s) := by
  cases r with
  | err => exact .returnTo k .err _
  | ok l =>
    simp only [Machine.answerDataPhase]
    split
    · exact .returnTo k (.ok []) _
    · exact .returnTo k _ _

/-- Every event but a reset leaves a waiting command with the statuses of its rule. -/
theorem reaction {u : State} {x : Input} {p : Point} (hr : Reaction s x u) (hp : s.point = some p) (hx : x ≠ .reset) :
    Reports p.statuses u := by
  cases hr with
  | ignored => exact .waits hp rfl
  | taken => exact .waits hp rfl
  | reset => exact absurd rfl hx
  | addrPhase hp' r => cases hp.symm.trans hp'; exact .answerAddrPhase _ _ r s
  | dataPhase hp' r => cases hp.symm.trans hp'; exact .answerDataPhase _ _ r s
  | pollStart hp' t => cases hp.symm.trans hp'; exact .of_calibrating (.pollRead (s := { s with pollStart := t }) rfl _)
  | pollTime hp' t => cases hp.symm.trans hp'; exact .of_calibrating (.answerPollTime rfl _ t)
  | pollDelay hp' => cases hp.symm.trans hp'; exact .of_calibrating (.pollRead rfl _)

theorem withInputs (h : Reports sts s) (xs : List Input) : Reports sts (withInputs xs s) := by
  cases h with
  | waits hp hsts => exact .waits hp hsts
  | ends hp hst => exact .ends hp hst

theorem settle {xs : List Input} (h : Reports sts s) (hxs : noReset xs) : Reports sts (settle xs s) := by
  induction xs generalizing s with
  | nil => exact h.withInputs []
  | cons x xs ih =>
    obtain ⟨hx, hrest⟩ : Input.reset ≠ x ∧ Input.reset ∉ xs := List.ne_and_not_mem_of_not_mem_cons hxs
    cases h with
    | waits hp hsts =>
      rw [settle_running (by simp [hp])]
      exact ih (hsts ▸ .reaction (reaction_react x s) hp hx.symm) hrest
    | ends hp hst =>
      rw [settle_ended hp]
      exact (Reports.ends hp hst).withInputs (x :: xs)

theorem rspStatus_mem (h : Reports sts s) (hp : s.point = none) : s.rspStatus ∈ sts := by
  cases h with
  | waits hp' _ => cases hp.symm.trans hp'
  | ends _ hst => exact hst

end Reports

end Sys2Proof.Machine

namespace Sys2Proof.Safety

open Sys2Proof.Machine

/-- Settles O15: a block that is not ready takes the word and nothing else; a take without a response is no change
(`takeResponse_of_notValid`); and an event that a waiting command does not react to may be left out (`settle_append_ignored`). -/
theorem wrongTimeEventsAreIgnored : Obligations.WrongTimeEventsAreIgnored := by
  refine ⟨?_, ?_, ?_⟩
  · intro s cw rest hok hp hbusy hi
    have hready : cmdReady s ≠ true := by
      rw [Ne, cmdReady_iff]
      rcases hbusy with h | h <;> simp [h]
    have htake : takeInput (.command cw) (withInputs rest s) = .state (withInputs rest s) := if_neg hready
    rw [step_taking hok hp hi, htake]
    rfl
  · intro s rest hok hp hvalid hi
    rw [step_taking hok hp hi]
    exact congrArg _ (takeResponse_of_notValid (s := withInputs rest s) hvalid)
  · intro s u xs ys x hok hp hstep hwait hx
    change step (withInputs (xs ++ x :: ys) s) = step (withInputs (xs ++ ys) s)
    change step (withInputs xs s) = .next u at hstep
    rw [step_running_withInputs hok hp] at hstep
    cases hstep
    have hignored : react x (settle xs s) = settle xs s := by
      rcases hx with ⟨cw, rfl⟩ | ⟨rfl, hvalid⟩
      · exact react_command cw _
      · exact takeResponse_of_notValid hvalid
    rw [step_running_withInputs hok hp, step_running_withInputs hok hp, settle_append_ignored hwait hignored]

/-- Settles O25: by what the step finds, a running command, no event, or an event to take; none of them writes a parameter. -/
theorem everyStepAnswers : Obligations.EveryStepAnswers := by
  intro s
  refine ⟨fun hok => ?_, step_badTables⟩
  cases hp : s.point with
  | some p => exact ⟨_, step_running hok (by simp [hp]), settle_params _ s⟩
  | none =>
    cases hi : s.inputs with
    | nil => exact ⟨s, step_waiting hok hp hi, rfl⟩
    | cons x rest => exact step_taking_answers hok hp hi

/-- Settles O30: the words named are the ones that decode to an ILLEGAL row, and every such row responds at once. -/
theorem illegalOutcome : Obligations.IllegalOutcome :=
  fun s => ⟨fun cw h => exec_of_isIllegalRow ((illegalWordsAreExactlyThese cw).mpr h) s, fun _ h => exec_of_isIllegalRow h s⟩

/-- Settles O47: a well-formed command starts with its own statuses (`Reports.startOf`), and no event but a reset leads it away from
them (`Reports.settle`). -/
theorem eachCommandReportsAnAllowedStatus : Obligations.EachCommandReportsAnAllowedStatus := by
  intro i s u hwf hs hexec hp
  rw [exec_eq_settle] at hexec
  cases hexec
  exact ((Reports.startOf hwf s).settle hs).rspStatus_mem hp

end Sys2Proof.Safety
end

section
/-! PROOF. Reset and hazards (spec/70_reset_and_hazards.md). A reset is one event: the step that takes it, with or without a command
running, leaves the reset values (`step_reset`), and a run that still waits is abandoned there (`settle_append_reset`). A late answer
is an event without a reaction, and a run that waits has used up its events (`settle_inputs_of_waiting`), so that it hangs. -/

namespace Sys2Proof.Machine

/-! ### The step that takes an event -/

/-- Where no command runs, an event other than a command word is taken by its reaction alone. -/
theorem step_reacting {s : State} (hok : paramsOk s.params = true) (hp : s.point = none) {x : Input} {rest : List Input}
    (hi : s.inputs = x :: rest) (hx : ∀ cw, x ≠ .command cw) : step s = .next (react x (withInputs rest s)) := by
  rw [step_taking hok hp hi]
  rcases takeInput_cases x (withInputs rest s) with ⟨cw, hcw, -, -⟩ | ⟨cw, hcw, -, -⟩ | ⟨-, htake⟩
  · exact absurd hcw (hx cw)
  · exact absurd hcw (hx cw)
  · rw [htake]

/-- Where no command runs no answer is awaited, and none has an effect (log 4). -/
theorem react_unawaited {s : State} (hp : s.point = none) {x : Input}
    (hx : (∃ r, x = .bus r) ∨ (∃ t, x = .time t) ∨ x = .delayDone) : react x s = s := by
  rcases hx with ⟨r, rfl⟩ | ⟨t, rfl⟩ | rfl
  · simp only [react, onBus, hp]
  · simp only [react, onTime, hp]
  · simp only [react, onDelayDone, hp]

/-! ### Reset (R157 to R159) -/

/-- The pin shows its inactive level while chip-select is not asserted. -/
theorem csPin_of_deselected {s : State} (h : s.cs = false) : csPin s = s.params.csActiveLow := by
  rw [csPin, h, Bool.false_xor]

/-- A running command takes a reset as its last event. -/
theorem settle_reset {s : State} (hp : s.point.isSome = true) (ys : List Input) :
    settle (.reset :: ys) s = withInputs ys (resetBlock s) := by
  rw [settle_running hp, react_reset, settle_ended (resetBlock_point s)]
  rfl

/-- A run still waiting when the reset comes is abandoned there, whatever follows. -/
theorem settle_append_reset {s : State} {xs : List Input} (hwait : (settle xs s).point.isSome = true) (ys : List Input) :
    settle (xs ++ .reset :: ys) s = withInputs ys (resetBlock (settle xs s)) := by
  rw [settle_append xs _ hwait, settle_reset hwait]

/-- One step takes a reset, whether a command runs or not. -/
theorem step_reset {s : State} {rest : List Input} (hok : paramsOk s.params = true) (hi : s.inputs = .reset :: rest) :
    step s = .next (withInputs rest (resetBlock s)) := by
  cases hp : s.point with
  | none =>
    rw [step_reacting hok hp hi (by simp), react_reset]
    rfl
  | some p =>
    have hrun : s.point.isSome = true := by simp [hp]
    rw [step_running hok hrun, hi, settle_reset hrun]

/-! ### The hang (R167) -/

/-- A run stops before its last event only where the command has ended. -/
theorem settle_inputs_of_waiting {s : State} {xs : List Input} (hwait : (settle xs s).point.isSome = true) :
    (settle xs s).inputs = [] := by
  induction xs generalizing s with
  | nil => rfl
  | cons x xs ih =>
    cases hp : s.point with
    | none =>
      rw [settle_ended hp] at hwait
      simp [hp] at hwait
    | some p =>
      rw [settle_running (by simp [hp])] at hwait ⊢
      exact ih hwait

/-- A command without an answer waits in its state. -/
theorem step_unanswered {s : State} (hok : paramsOk s.params = true) (hp : s.point.isSome = true) (hi : s.inputs = []) :
    step s = .next s := by
  rw [step_running hok hp, hi, settle_nil, ← hi]

end Sys2Proof.Machine

namespace Sys2Proof.Safety

open Sys2Proof.Machine

/-- Settles O19: the run with the reset is the waiting run, then the reset (`settle_append_reset`), and no run writes a parameter. -/
theorem resetAbandonsRunningCommand : Obligations.ResetAbandonsRunningCommand := by
  intro i s u xs ys hexec hwait
  change exec i (withInputs xs s) = .next u at hexec
  rw [exec_withInputs] at hexec
  cases hexec
  have hparams : (settle xs (startOf i s)).params = s.params := (settle_params xs _).trans (Advances.startOf i s).params
  calc exec i (withInputs (xs ++ .reset :: ys) s)
      = .next (settle (xs ++ .reset :: ys) (startOf i s)) := exec_withInputs i _ s
    _ = .next (withInputs ys (resetBlock (settle xs (startOf i s)))) := by rw [settle_append_reset hwait]
    _ = .next { State.reset with inputs := ys, trace := (settle xs (startOf i s)).trace, params := s.params } := by
      rw [← hparams]
      rfl

/-- Settles O20: no state reacts to a late answer, so a run may leave it out (`settle_append_ignored`); where no command runs no
state reacts to any answer (`react_unawaited`). -/
theorem lateAnswersAreIgnored : Obligations.LateAnswersAreIgnored := by
  refine ⟨?_, ?_, ?_, ?_⟩
  · intro s a rest hok hp hi
    exact step_reacting hok hp hi (by simp)
  · intro i s u a xs ys hexec hwait
    change exec i (withInputs (xs ++ .late a :: ys) s) = exec i (withInputs (xs ++ ys) s)
    change exec i (withInputs xs s) = .next u at hexec
    rw [exec_withInputs] at hexec
    cases hexec
    rw [exec_withInputs, exec_withInputs, settle_append_ignored hwait (react_late a _)]
  · intro s u a xs ys hok hp hstep hwait
    change step (withInputs (xs ++ .late a :: ys) s) = step (withInputs (xs ++ ys) s)
    change step (withInputs xs s) = .next u at hstep
    rw [step_running_withInputs hok hp] at hstep
    cases hstep
    rw [step_running_withInputs hok hp, step_running_withInputs hok hp, settle_append_ignored hwait (react_late a _)]
  · intro s x rest hok hp hi hx
    have hcmd : ∀ cw, x ≠ .command cw := by rcases hx with ⟨r, rfl⟩ | ⟨t, rfl⟩ | rfl <;> simp
    rw [step_reacting hok hp hi hcmd, react_unawaited (s := withInputs rest s) hp hx]
    rfl

/-- Settles O21: a run that waits has no event left (`settle_inputs_of_waiting`), and then its step changes nothing. -/
theorem unansweredCommandHangs : Obligations.UnansweredCommandHangs := by
  intro i s u hok hexec hwait
  obtain ⟨t, ht, hparams⟩ := exec_answers i s
  rw [hexec] at ht
  cases ht
  rw [exec_eq_settle] at hexec
  cases hexec
  have hinputs := settle_inputs_of_waiting hwait
  exact ⟨hinputs, step_unanswered (hparams ▸ hok) hwait hinputs⟩

/-- Settles O17: each value is read off, and chip-select is not asserted. -/
theorem resetValues : Obligations.ResetValues :=
  ⟨rfl, rfl, rfl, rfl, rfl, rfl, rfl, rfl, rfl, rfl, rfl, rfl, rfl, rfl, rfl, rfl, csPin_of_deselected rfl⟩

/-- Settles O18: the step takes the reset (`step_reset`), and the state it leaves is read off. -/
theorem resetAtAnyTime : Obligations.ResetAtAnyTime := by
  intro s rest hok hi
  refine ⟨_, step_reset hok hi, ?_⟩
  have hpin : csPin (withInputs rest (resetBlock s)) = s.params.csActiveLow := csPin_of_deselected rfl
  exact ⟨rfl, rfl, rfl, rfl, rfl, rfl, rfl, rfl, rfl, rfl, rfl, rfl, hpin, rfl, rfl, rfl, rfl, rfl, rfl, rfl, rfl⟩

/-- Settles O24: the state after reset is what a reset leaves of it, and every reset leads into the invariant. -/
theorem resetMeetsInvariant : Obligations.ResetMeetsInvariant := Inv.resetBlock State.reset

end Sys2Proof.Safety
end
